-- ==== Sys2Proof/Word.lean ====
section
/-! DEFINITION. The plain carriers of the HT-640: octets, currents, times, the numbering of sections,
breaks, classes and lanes, and the fixed tables indexed by them. -/

namespace Sys2Proof

/-- One octet on a lane (R144, R169). -/
abbrev Octet := BitVec 8

/-- A truck ID as it stands in the SRC or DEST octet of a telegram; 1 to 239 name trucks (10.3). -/
abbrev TruckId := Octet

/-- A current in whole amperes (00_scope, Conventions). -/
abbrev Amps := Nat

/-- A time on the part's own millisecond timebase, or a length of time in milliseconds. -/
abbrev Time := Nat

/-- Section `Sk` is `k` (00_scope, Conventions). -/
abbrev SectionId := Fin 6

/-- Break `Bk` is held under the index `k - 1`, so break index `b` is the break ABOVE section `b`
and below section `b + 1`; its gap input is `G(b + 1)`. -/
abbrev BreakId := Fin 6

/-- Class `Cn` is `n`. -/
abbrev ClassId := Fin 4

/-- Lane `Ln` is `n`. -/
abbrev LaneId := Fin 4

/-- A set as a telegram carries it: 24 members, member `n` listed when bit `n` is 1 (R169). -/
abbrev MemberSet := BitVec 24

/-- The number `k` a break is called by: index `b` is break `B(b + 1)`. -/
def breakNumber (b : BreakId) : Nat := b.val + 1

/-- A table with one entry changed. -/
def updateAt {α : Type} {n : Nat} (v : Vector α n) (i : Fin n) (f : α → α) : Vector α n :=
  v.set i.val (f v[i]) i.isLt

@[simp] theorem updateAt_get_self {α : Type} {n : Nat} (v : Vector α n) (i : Fin n) (f : α → α) :
    (updateAt v i f)[i] = f v[i] := by
  simp [updateAt]

theorem updateAt_get_ne {α : Type} {n : Nat} (v : Vector α n) (i j : Fin n) (f : α → α) (h : j ≠ i) :
    (updateAt v i f)[j] = v[j] := by
  have hv : i.val ≠ j.val := fun e => h (Fin.ext e.symm)
  simp [updateAt, hv]

theorem updateAt_get {α : Type} {n : Nat} (v : Vector α n) (i j : Fin n) (f : α → α) :
    (updateAt v i f)[j] = if j = i then f v[i] else v[j] := by
  by_cases h : j = i
  · subst h; simp [updateAt]
  · simp [h, updateAt_get_ne v i j f h]

/-- All six sections, S0 first. -/
def allSections : List SectionId := [0, 1, 2, 3, 4, 5]

/-- All six breaks, B1 first. -/
def allBreaks : List BreakId := [0, 1, 2, 3, 4, 5]

/-- All four lanes, L0 first. -/
def allLanes : List LaneId := [0, 1, 2, 3]

/-- All four classes, C0 first. -/
def allClasses : List ClassId := [0, 1, 2, 3]

theorem mem_allSections (k : SectionId) : k ∈ allSections := by revert k; decide

theorem mem_allBreaks (b : BreakId) : b ∈ allBreaks := by revert b; decide

theorem mem_allLanes (l : LaneId) : l ∈ allLanes := by revert l; decide

theorem mem_allClasses (c : ClassId) : c ∈ allClasses := by revert c; decide

end Sys2Proof
end

