-- ==== Sys2Proof/Config.lean ====
section
/-! DEFINITION. What the manual leaves to the individual part or leaves open: constants WITHOUT a body, so
that no proof can rest on a value of them. -/

namespace Sys2Proof

/-- The part's own 48-bit cabinet identity, "fixed in the part at manufacture" (R158). DESIGN CHOICE
(notes/assumptions/23.md). -/
opaque Config.cabinetIdentity : BitVec 48

/-- How long the n-th STORE of a part takes: "a time that is not fixed" (R162); the model folds the value into
1 to 600 ms. -/
opaque Config.storeTime : Nat → Time

/-- How long a telegram of so many octets takes at a line rate (R149 says only that the transmission "runs to the
end at the lane's line rate"; bits per octet and line gaps are not given). Arguments: line rate, octets.
DESIGN CHOICE (notes/assumptions/14.md). -/
opaque Config.transmitTime : Nat → Nat → Time

/-- Which of several of the part's own events that are due at one moment is taken first: "either may be taken
first" (R39, R90, R117 to R119, R139, R148, R156). Argument: how many such choices were made before.
DESIGN CHOICE (notes/assumptions/2.md). -/
opaque Config.choice : Nat → Nat

end Sys2Proof
end

