-- ==== Sys2Proof/Syntax.lean ====
section
/-! DEFINITION. The commands of the HT-640: one constructor of `Instr` per row of spec/opcode_table.json, with the
operands the row's rule gives it, and the small enumerations those operands are drawn from. -/

namespace Sys2Proof

/-- The breaker state a feeder report carries (10.5). -/
inductive BreakerState where
  | closed | openState | tripped | lockedOut
  deriving DecidableEq, Repr

/-- The mode of a section (R2, R8 to R10). -/
inductive Mode where
  | auto | fixed | held
  deriving DecidableEq, Repr

/-- One octet as the line delivers it: its value and whether the line saw a framing error on it (R144). -/
structure LineOctet where
  value : Octet
  framingError : Bool
  deriving DecidableEq, Repr

/-- The commands. A row that is a telegram carries the octet fields of its payload (10.4), a truck's telegram also the
lane it came on and its SRC; a row that is an expiry carries the record whose timer expires. -/
inductive Instr where
  /-- POWER_ON (R165): power is applied with the MAINT strap at this level. -/
  | powerOn (maintHigh : Bool)
  /-- POWER_LOSS (R162). -/
  | powerLoss
  /-- RESET_ASSERT (R162): the RESET pin is driven low. -/
  | resetAssert
  /-- RESET_RELEASE (R165): the RESET pin is released with the MAINT strap at this level. -/
  | resetRelease (maintHigh : Bool)
  /-- GAP_INPUT_EDGE (R13): gap input `Gk` now stands at this level. -/
  | gapInputEdge (gap : Nat) (high : Bool)
  /-- FRAME (R144): octets arrive on a lane, the last of them completing a frame. -/
  | frame (lane : LaneId) (octets : List LineOctet)
  /-- FRAME_TIMEOUT (R144). -/
  | frameTimeout (lane : LaneId)
  /-- TRANSMIT_START (R149). -/
  | transmitStart (lane : LaneId)
  /-- TRANSMIT_END (R143). -/
  | transmitEnd (lane : LaneId)
  /-- LINK_BEACON (R146) with its status octet. -/
  | linkBeacon (lane : LaneId) (status : Octet)
  /-- ADMIT (R42): section; demand; flags, bit 0 raised. -/
  | truckAdmit (lane : LaneId) (src : TruckId) (sectionNo : Octet) (demand : BitVec 16) (flags : Octet)
  /-- DEMAND (R31): demand; flags, bit 0 boost. -/
  | truckDemand (lane : LaneId) (src : TruckId) (demand : BitVec 16) (flags : Octet)
  /-- APPROACH (R97). -/
  | truckApproach (lane : LaneId) (src : TruckId) (breakNo : Octet)
  /-- PASSED (R103). -/
  | truckPassed (lane : LaneId) (src : TruckId) (breakNo : Octet)
  /-- LOWERED (R28). -/
  | truckLowered (lane : LaneId) (src : TruckId)
  /-- FEEDER_REPORT (R123): feeder; breaker state; available capacity; measured current; bus voltage. -/
  | feederReport (feeder : Octet) (breaker : BreakerState) (capacity current volts : BitVec 16)
  /-- CONFIG_OPEN (R158). -/
  | configOpen (identity : BitVec 48)
  /-- CONFIG_CLOSE (R158). -/
  | configClose
  /-- SET (R160): item; set; value. -/
  | setItem (item : Octet) (members : MemberSet) (value : BitVec 32)
  /-- GET (R160): item; set. -/
  | getItem (item : Octet) (members : MemberSet)
  /-- SET_MODE (R11). -/
  | setMode (members : MemberSet) (mode : Mode)
  /-- ENROL (R19): truck ID; class number. -/
  | enrol (truck : TruckId) (classNo : Octet)
  /-- UNENROL (R20). -/
  | unenrol (truck : TruckId)
  /-- FORCE_RELEASE (R21). -/
  | forceRelease (truck : TruckId)
  /-- READ_TABLE (R161). -/
  | readTable (members : MemberSet)
  /-- CLEAR_EVENTS (R166). -/
  | clearEvents (members : MemberSet)
  /-- STORE (R162). -/
  | store
  /-- STORE_COMPLETION (R162). -/
  | storeCompletion
  /-- COMMISSION_LOCK (R163). -/
  | commissionLock
  /-- RESTART (R164). -/
  | restart
  /-- LANE_SILENCE_EXPIRY (R148). -/
  | laneSilenceExpiry (lane : LaneId)
  /-- PAIRING_WINDOW_END (R153) of the slot of a truck. -/
  | pairingWindowEnd (truck : TruckId)
  /-- DEMAND_INTERVAL_END (R31). -/
  | demandIntervalEnd (truck : TruckId)
  /-- BOOST_EXPIRY (R33). -/
  | boostExpiry (truck : TruckId)
  /-- COOLDOWN_END (R33). -/
  | cooldownEnd (truck : TruckId)
  /-- SILENCE_LIMIT_EXPIRY (R34). -/
  | silenceLimitExpiry (truck : TruckId)
  /-- ABANDONMENT (R36). -/
  | abandonment (truck : TruckId)
  /-- RESYNC_WINDOW_CLOSE (R50). -/
  | resyncWindowClose
  /-- REFRESH_TIMER_EXPIRY (R61). -/
  | refreshTimerExpiry
  /-- ALLOCATION_PASS (R59) on a section. -/
  | allocationPass (sec : SectionId)
  /-- RAMP_STEP (R86) in a section. -/
  | rampStep (sec : SectionId)
  /-- CLEARANCE (R100) of a truck's entry at a break. -/
  | clearance (brk : BreakId) (truck : TruckId)
  /-- GAP_TIMEOUT (R108) of a truck's entry at a break. -/
  | gapTimeout (brk : BreakId) (truck : TruckId)
  /-- FEEDER_HOLD_EXPIRY (R129). -/
  | feederHoldExpiry
  /-- RESTORE_TURN (R134) in a section. -/
  | restoreTurn (sec : SectionId)
  /-- RESTORE_LAPSE (R135) of a section. -/
  | restoreLapse (sec : SectionId)
  /-- WINDOW_TIMER_EXPIRY (R158). -/
  | windowTimerExpiry
  deriving DecidableEq, Repr

end Sys2Proof
end

