-- ==== Sys2Proof/WellFormed.lean ====
section
/-! DEFINITION. Which commands the outside and the part's own timers can form at all: the bounds that the operand
types do not already carry. -/

namespace Sys2Proof

/-- An address a truck telegram's SRC may carry: 0x01 to 0xEF (R146, 10.3). -/
def isTruckAddress (t : TruckId) : Bool := 1 ≤ t.toNat && t.toNat ≤ 239

/-- A gap input of the part: G1 to G6. -/
def isGapInput (gap : Nat) : Bool := 1 ≤ gap && gap ≤ 6

/-- A run of octets no longer than the longest frame: start octet, five header octets, 200 payload octets and two CHECK
octets (10.1). A shorter run than a whole frame is what FRAME_TIMEOUT cuts off (R144). -/
def isFrameLength (n : Nat) : Bool := 1 ≤ n && n ≤ 208

/-- A command is well formed when a truck telegram comes from a truck's address, a timer belongs to a truck's
address, a gap input exists, and a run of octets is one that a frame can have. Every other operand is bounded by its type. -/
def Instr.wellFormed : Instr → Bool
  | .powerOn _ => true
  | .powerLoss => true
  | .resetAssert => true
  | .resetRelease _ => true
  | .gapInputEdge gap _ => isGapInput gap
  | .frame _ octets => isFrameLength octets.length
  | .frameTimeout _ => true
  | .transmitStart _ => true
  | .transmitEnd _ => true
  | .linkBeacon _ _ => true
  | .truckAdmit _ src _ _ _ => isTruckAddress src
  | .truckDemand _ src _ _ => isTruckAddress src
  | .truckApproach _ src _ => isTruckAddress src
  | .truckPassed _ src _ => isTruckAddress src
  | .truckLowered _ src => isTruckAddress src
  | .feederReport _ _ _ _ _ => true
  | .configOpen _ => true
  | .configClose => true
  | .setItem _ _ _ => true
  | .getItem _ _ => true
  | .setMode _ _ => true
  | .enrol _ _ => true
  | .unenrol _ => true
  | .forceRelease _ => true
  | .readTable _ => true
  | .clearEvents _ => true
  | .store => true
  | .storeCompletion => true
  | .commissionLock => true
  | .restart => true
  | .laneSilenceExpiry _ => true
  | .pairingWindowEnd truck => isTruckAddress truck
  | .demandIntervalEnd truck => isTruckAddress truck
  | .boostExpiry truck => isTruckAddress truck
  | .cooldownEnd truck => isTruckAddress truck
  | .silenceLimitExpiry truck => isTruckAddress truck
  | .abandonment truck => isTruckAddress truck
  | .resyncWindowClose => true
  | .refreshTimerExpiry => true
  | .allocationPass _ => true
  | .rampStep _ => true
  | .clearance _ truck => isTruckAddress truck
  | .gapTimeout _ truck => isTruckAddress truck
  | .feederHoldExpiry => true
  | .restoreTurn _ => true
  | .restoreLapse _ => true
  | .windowTimerExpiry => true

end Sys2Proof
end

