-- ==== Sys2Proof/Decode.lean ====
section
/-! DEFINITION. The words of spec/opcode_table.json. The table gives no row any bits: the HT-640 is a block that takes
commands, not a processor that fetches words. Telegrams are decoded from frames in Machine/Telegrams.lean. -/

namespace Sys2Proof

/-- The command that a word of the opcode table spells: no row of the table gives bits, so none. -/
def decodeTableWord (_nbits _w : Nat) : Option Instr := none

end Sys2Proof
end

