-- ==== Sys2Proof/Machine/State.lean ====
section
/-! DEFINITION. Everything the HT-640 holds, as plain data, and its state right after the power-on of a part whose
settings store was never written. -/

namespace Sys2Proof.Machine

/-! ## Enumerations of the records -/

/-- Section states (R3). -/
inductive SectionState where
  | outOfService | unreported | live | dead
  deriving DecidableEq, Repr

/-- Truck states (R17, R25). -/
inductive TruckState where
  | idle | queued | holder | approaching | cleared | suspended
  deriving DecidableEq, Repr

/-- The rank of a queue entry (R38). -/
inductive Rank where
  | shed | raised | normal
  deriving DecidableEq, Repr

/-- Lane roles (R142). -/
inductive Role where
  | unused | feeder | radioA | radioB | supervisory
  deriving DecidableEq, Repr

/-- Lane states (R148). -/
inductive LaneState where
  | await | live | quiet
  deriving DecidableEq, Repr

/-- Pairing modes (R152). -/
inductive PairingMode where
  | either | both | aOnly | bOnly
  deriving DecidableEq, Repr

/-- Which edges of a gap input are selected (R12). -/
inductive EdgeSelect where
  | rising | falling | both
  deriving DecidableEq, Repr

/-- Which passage evidence counts at a break (R15). -/
inductive EvidenceMode where
  | sensor | telegram | either
  deriving DecidableEq, Repr

/-- The kind of one piece of passage evidence (R96). -/
inductive EvidenceKind where
  | sensor | telegram
  deriving DecidableEq, Repr

/-- How far a feeder record may be trusted (R122). -/
inductive ReportAge where
  | none | fresh | held | derated
  deriving DecidableEq, Repr

/-- Reasons of a LOWER (10.5). -/
inductive LowerReason where
  | shed | dead | exit | queueFull | notEnrolled | noSection | released
  deriving DecidableEq, Repr

/-- Codes of a REPLY (10.5). -/
inductive ReplyCode where
  | accepted | clamped | notOpen | locked | busy | emptySet | unknownItem | truckActive | rosterFull
  | unknownTruck | wrongCabinet
  deriving DecidableEq, Repr

/-- The twenty event kinds (10.6). -/
inductive EventKind where
  | truckSilent | truckAbandoned | notEnrolled | shed | queueFull | handoverRefused | handoverTimeout
  | earlyCrossing | lateCrossing | unclaimedPassage | boostExpired | sectionDead | sectionRestored
  | restoreLapsed | feederDerated | overdraw | laneQuiet | pairingDegraded | telegramRejected | storeInvalid
  deriving DecidableEq, Repr

/-- The code of an event kind, which is also its member number in a set of kinds (10.6). -/
def EventKind.code : EventKind → Fin 20
  | .truckSilent => 0 | .truckAbandoned => 1 | .notEnrolled => 2 | .shed => 3 | .queueFull => 4
  | .handoverRefused => 5 | .handoverTimeout => 6 | .earlyCrossing => 7 | .lateCrossing => 8
  | .unclaimedPassage => 9 | .boostExpired => 10 | .sectionDead => 11 | .sectionRestored => 12
  | .restoreLapsed => 13 | .feederDerated => 14 | .overdraw => 15 | .laneQuiet => 16
  | .pairingDegraded => 17 | .telegramRejected => 18 | .storeInvalid => 19

/-- Every event kind, in ascending code order (10.6). -/
def allEventKinds : List EventKind :=
  [.truckSilent, .truckAbandoned, .notEnrolled, .shed, .queueFull, .handoverRefused, .handoverTimeout,
   .earlyCrossing, .lateCrossing, .unclaimedPassage, .boostExpired, .sectionDead, .sectionRestored,
   .restoreLapsed, .feederDerated, .overdraw, .laneQuiet, .pairingDegraded, .telegramRejected, .storeInvalid]

/-- What an event is about (R166). -/
inductive Subject where
  | none
  | truck (t : TruckId)
  | sec (k : SectionId)
  | brk (b : BreakId)
  | lane (l : LaneId)
  deriving DecidableEq, Repr

/-- One event record, or its last-cleared copy (R166). -/
structure EventRecord where
  flag : Bool
  count : Nat
  subject : Subject
  deriving DecidableEq, Repr

/-- A clear record: flag clear, count 0, subject none (R166). -/
def EventRecord.clear : EventRecord := { flag := false, count := 0, subject := .none }

/-! ## Settings -/

/-- The settings held per section (R2, R88, R122). -/
structure SectionSettings where
  enabled : Bool
  rating : Amps
  margin : Amps
  mode : Mode
  knee : Nat
  cut : Nat
  overdrawTolerance : Amps
  overdrawPersistence : Time
  increaseSpacing : Time
  deriving DecidableEq, Repr

/-- The settings held per break (R12, R94). -/
structure BreakSettings where
  gapEnabled : Bool
  edgeSelect : EdgeSelect
  deadTime : Time
  evidenceMode : EvidenceMode
  gapCurrent : Amps
  settleTime : Time
  gapTimeout : Time
  evidenceWindow : Time
  lateWindow : Time
  deriving DecidableEq, Repr

/-- One class record (R22); the boost limit and cooldown are in seconds. -/
structure ClassRecord where
  floor : Amps
  ceiling : Amps
  boostCeiling : Amps
  weight : Nat
  fixedGrant : Amps
  rampProfile : Nat
  boostLimit : Nat
  boostCooldown : Nat
  deriving DecidableEq, Repr

/-- The settings held per lane (R142). -/
structure LaneSettings where
  role : Role
  lineRate : Nat
  silenceLimit : Time
  deriving DecidableEq, Repr

/-- Every setting of the part: what STORE writes beside the roster (9.4, 10.7). -/
structure Settings where
  sectionCount : Nat
  demandInterval : Time
  silenceLimit : Time
  abandonLimit : Time
  refreshInterval : Time
  resyncWindow : Time
  feederHoldTime : Time
  fallbackPercentage : Nat
  restoreWindow : Time
  pairingMode : PairingMode
  pairingWindow : Time
  supervisoryMask : MemberSet
  feederMask : MemberSet
  sections : Vector SectionSettings 6
  breaks : Vector BreakSettings 6
  classes : Vector ClassRecord 4
  lanes : Vector LaneSettings 4
  deriving DecidableEq, Repr

/-- The factory defaults of a section (R2, R88, R122). -/
def SectionSettings.default : SectionSettings :=
  { enabled := true, rating := 6000, margin := 250, mode := .auto, knee := 2450, cut := 2050,
    overdrawTolerance := 150, overdrawPersistence := 1000, increaseSpacing := 500 }

/-- The factory defaults of a break (R12, R94). -/
def BreakSettings.default : BreakSettings :=
  { gapEnabled := true, edgeSelect := .rising, deadTime := 500, evidenceMode := .either, gapCurrent := 50,
    settleTime := 400, gapTimeout := 15000, evidenceWindow := 1500, lateWindow := 3000 }

/-- The factory class records C0 to C3 (R22). -/
def ClassRecord.defaults : Vector ClassRecord 4 :=
  #v[{ floor := 400, ceiling := 1600, boostCeiling := 1800, weight := 2, fixedGrant := 1000,
       rampProfile := 3, boostLimit := 20, boostCooldown := 120 },
     { floor := 600, ceiling := 2000, boostCeiling := 2400, weight := 3, fixedGrant := 1200,
       rampProfile := 3, boostLimit := 30, boostCooldown := 120 },
     { floor := 400, ceiling := 1600, boostCeiling := 1600, weight := 2, fixedGrant := 1000,
       rampProfile := 3, boostLimit := 0, boostCooldown := 0 },
     { floor := 300, ceiling := 1200, boostCeiling := 1200, weight := 1, fixedGrant := 800,
       rampProfile := 2, boostLimit := 0, boostCooldown := 0 }]

/-- The factory defaults of the lanes: L0 FEEDER, L1 RADIO_A, L2 RADIO_B, L3 SUPERVISORY (R142). -/
def LaneSettings.defaults : Vector LaneSettings 4 :=
  #v[{ role := .feeder, lineRate := 115200, silenceLimit := 3000 },
     { role := .radioA, lineRate := 115200, silenceLimit := 3000 },
     { role := .radioB, lineRate := 115200, silenceLimit := 3000 },
     { role := .supervisory, lineRate := 115200, silenceLimit := 3000 }]

/-- The set of all twenty event kinds, the default mask of the SUPERVISORY role (R167). -/
def allKindsMask : MemberSet := 0xFFFFF#24

/-- The factory defaults of every setting (R165, 10.7). -/
def Settings.default : Settings :=
  { sectionCount := 6, demandInterval := 250, silenceLimit := 2000, abandonLimit := 30000,
    refreshInterval := 1000, resyncWindow := 10000, feederHoldTime := 5000, fallbackPercentage := 50,
    restoreWindow := 20000, pairingMode := .either, pairingWindow := 200,
    supervisoryMask := allKindsMask, feederMask := 0,
    sections := Vector.replicate 6 SectionSettings.default,
    breaks := Vector.replicate 6 BreakSettings.default,
    classes := ClassRecord.defaults, lanes := LaneSettings.defaults }

/-- One enrolment as the settings store holds it (R17). -/
structure Enrolment where
  truck : TruckId
  cls : ClassId
  deriving DecidableEq, Repr

/-- What one STORE writes (9.4). -/
structure StoreImage where
  settings : Settings
  roster : List Enrolment
  deriving DecidableEq, Repr

/-- The settings store: contents that fail the check (never written, or left incomplete), or a whole image (R165). -/
inductive StoreCell where
  | failing
  | holding (image : StoreImage)
  deriving DecidableEq, Repr

/-- A store in progress: the values as they stood when the STORE was taken, when that was, and how long the part will
take over it (R162). -/
structure StoreJob where
  image : StoreImage
  started : Time
  duration : Time
  deriving DecidableEq, Repr

/-! ## Telegrams -/

/-- A telegram as the receive queue holds it, decoded against the layout of its type (10.4, R170). The flags octet is
kept whole, since two radio copies are identical only when their payloads are equal (R152). -/
inductive Inbound where
  | truckAdmit (sectionNo : Octet) (demand : BitVec 16) (flags : Octet)
  | truckDemand (demand : BitVec 16) (flags : Octet)
  | truckApproach (breakNo : Octet)
  | truckPassed (breakNo : Octet)
  | truckLowered
  | linkBeacon (status : Octet)
  | feederReport (feeder : Octet) (breaker : BreakerState) (capacity current volts : BitVec 16)
  | configOpen (identity : BitVec 48)
  | configClose
  | setItem (item : Octet) (members : MemberSet) (value : BitVec 32)
  | getItem (item : Octet) (members : MemberSet)
  | setMode (members : MemberSet) (mode : Mode)
  | enrol (truck : TruckId) (classNo : Octet)
  | unenrol (truck : TruckId)
  | forceRelease (truck : TruckId)
  | readTable (members : MemberSet)
  | clearEvents (members : MemberSet)
  | store
  | commissionLock
  | restart
  deriving DecidableEq, Repr

/-- One telegram of a receive queue with the SRC it carried. -/
structure RxEntry where
  src : Octet
  telegram : Inbound
  deriving DecidableEq, Repr

/-- A holder as TABLE_IMAGE shows it (R77, R171). -/
structure HolderImage where
  truck : TruckId
  state : TruckState
  issued : Amps
  target : Amps
  applied : Amps
  deriving DecidableEq, Repr

/-- An approach entry as TABLE_IMAGE shows it; a reservation of none is sent as 0 (R120, R171). -/
structure ApproachImage where
  truck : TruckId
  reservation : Option Amps
  isCleared : Bool
  gapGrant : Amps
  deriving DecidableEq, Repr

/-- A queue entry as TABLE_IMAGE shows it (R53, R171). -/
structure QueueImage where
  position : Nat
  truck : TruckId
  rank : Rank
  deriving DecidableEq, Repr

/-- The contents of a TABLE_IMAGE (R161). -/
structure TableImage where
  sec : SectionId
  state : SectionState
  mode : Mode
  effective : Amps
  available : Amps
  spare : Amps
  holders : List HolderImage
  approaches : List ApproachImage
  queue : List QueueImage
  deriving DecidableEq, Repr

/-- The value of a REPLY: four octets, or the six octets of the cabinet identity (R159, R169). -/
inductive ReplyValue where
  | word (v : Nat)
  | identity (v : BitVec 48)
  deriving DecidableEq, Repr

/-- The payload of a telegram the part sends (10.4, R171). -/
inductive Payload where
  | grant (sec : SectionId) (issued target : Amps) (boostActive : Bool)
  | queued (sec : SectionId) (position : Nat)
  | clearToCross (brk : BreakId)
  | lower (reason : LowerReason) (brk : Option BreakId)
  | resync (remaining : Time)
  | sectionLoad (sec : SectionId) (issuedSum targetSum : Amps) (holders : Nat)
  | reply (code : ReplyCode) (answered : Octet) (item : Octet) (value : Option ReplyValue)
  | tableImage (image : TableImage)
  | event (kinds : List (EventKind × Subject))
  deriving DecidableEq, Repr

/-- A telegram in a transmit queue: its DEST, its U and Y bits and its payload; SRC and the D bit are the same on
every telegram the part sends (R149). -/
structure OutTelegram where
  dest : Octet
  urgent : Bool
  answer : Bool
  payload : Payload
  deriving DecidableEq, Repr

/-! ## Lanes and radio pairing -/

/-- The counts of a lane (R151). -/
structure LaneCounts where
  accepted : Nat
  checkFailures : Nat
  corrected : Nat
  foreignAddress : Nat
  receiveOverflows : Nat
  transmitDrops : Nat
  unpaired : Nat
  deriving DecidableEq, Repr

/-- All counts 0. -/
def LaneCounts.zero : LaneCounts :=
  { accepted := 0, checkFailures := 0, corrected := 0, foreignAddress := 0, receiveOverflows := 0,
    transmitDrops := 0, unpaired := 0 }

/-- A telegram in transmission: the octets of its frame and when it began (R149). -/
structure Transmission where
  octets : List Octet
  started : Time
  deriving DecidableEq, Repr

/-- A line-rate change that waits for so many transmissions to end first (R143). -/
structure RateChange where
  rate : Nat
  transmissionsLeft : Nat
  deriving DecidableEq, Repr

/-- One Lane Port (R142 to R151). `rateChanges` holds the line-rate changes that wait, oldest first; `partialFrame` holds the octets of the frame being received, start octet first, and is
empty while the port is hunting; `resyncRepeated` is the lane's repeat flag (R51). -/
structure LanePort where
  state : LaneState
  silenceStart : Time
  partialFrame : List Octet
  lastOctet : Time
  rx : List RxEntry
  tx : List OutTelegram
  sending : Option Transmission
  rate : Nat
  rateChanges : List RateChange
  counts : LaneCounts
  resyncRepeated : Bool
  deriving DecidableEq, Repr

/-- A copy in a pairing slot; its SRC is the truck of the slot. `window` is the pairing window it arrived under (R152,
R156). -/
structure RadioCopy where
  telegram : Inbound
  lane : LaneId
  arrival : Time
  window : Time
  deriving DecidableEq, Repr

/-! ## Trucks, queues, holders, crossings, feeders -/

/-- The boost episode of a truck, with the time at which it or its cooldown ends (R17, R32, R33). -/
inductive Boost where
  | none
  | active (ends : Time)
  | cooldown (ends : Time)
  deriving DecidableEq, Repr

/-- A demand waiting for the demand interval, rounded up to the quantum, with its boost flag (R17, R31). -/
structure PendingDemand where
  amps : Amps
  boost : Bool
  deriving DecidableEq, Repr

/-- One truck record (R17), with the truck's pairing slot (R152). -/
structure Truck where
  id : TruckId
  cls : ClassId
  state : TruckState
  sec : Option SectionId
  requested : Amps
  applied : Amps
  waiting : Option PendingDemand
  lastApplication : Option Time
  boost : Boost
  silent : Bool
  lastHeard : Option Time
  slot : Option RadioCopy
  deriving DecidableEq, Repr

/-- One admission queue entry (R38). -/
structure QueueEntry where
  truck : TruckId
  rank : Rank
  reported : Option Nat
  deriving DecidableEq, Repr

/-- How a truck came into ordinary service in its section; absent outside the event in which it did (R55). -/
inductive Entry where
  | absent
  | fromQueue
  | handover (reservation : Amps)
  | returned
  | late
  | restored
  deriving DecidableEq, Repr

/-- One holder: the grant table's target and entry field (R55) and the Grant Issue Unit's issued grant (R79). -/
structure Holder where
  truck : TruckId
  issued : Amps
  target : Amps
  entry : Entry
  deriving DecidableEq, Repr

/-- One ramp entry (R80). -/
structure RampEntry where
  truck : TruckId
  target : Amps
  stepped : Bool
  deriving DecidableEq, Repr

/-- The state of a section (R3), its grant table (R55) and its part of the Grant Issue Unit (R80). `passPending` says
that an event has called for a pass that runs as an event of its own and has not run yet (R6). -/
structure SectionRecord where
  state : SectionState
  available : Amps
  spare : Amps
  holders : List Holder
  ramp : List RampEntry
  lastDecrease : Option Time
  lastStep : Option Time
  passPending : Bool
  deriving DecidableEq, Repr

/-- The figures of a feeder report (R122). -/
structure FeederFigures where
  breaker : BreakerState
  capacity : Amps
  current : Amps
  volts : Nat
  deriving DecidableEq, Repr

/-- The overdraw watch (R137). -/
inductive Overdraw where
  | clear
  | timing (start : Time)
  | declared
  deriving DecidableEq, Repr

/-- One feeder record (R122): `restoreEnd` is the end of a running restore window. -/
structure FeederRecord where
  lastReport : Option FeederFigures
  age : ReportAge
  effective : Amps
  overdraw : Overdraw
  restoreEnd : Option Time
  nextTurn : Option Time
  deriving DecidableEq, Repr

/-- The kind of an approach entry; a HANDOVER entry carries its reservation amount (R95). -/
inductive CrossingKind where
  | handover (reservation : Amps)
  | exit
  deriving DecidableEq, Repr

/-- The crossing state of an approach entry; a CLEARED entry carries its time cleared (R95). -/
inductive CrossingState where
  | approaching
  | cleared (at_ : Time)
  deriving DecidableEq, Repr

/-- One approach entry (R95). -/
structure ApproachEntry where
  truck : TruckId
  kind : CrossingKind
  state : CrossingState
  gapGrant : Amps
  approachTime : Time
  deriving DecidableEq, Repr

/-- The last-completion record of a break (R96). -/
structure Completion where
  truck : TruckId
  evidence : EvidenceKind
  time : Time
  edgeAbsorbed : Bool
  deriving DecidableEq, Repr

/-- The last-cancellation record of a break (R96). -/
structure Cancellation where
  truck : TruckId
  time : Time
  deriving DecidableEq, Repr

/-- The held fields of a break record (R12, R95, R96); a level is high when true. -/
structure BreakRecord where
  reference : Option Bool
  lastEdge : Option Time
  approaches : List ApproachEntry
  lastCompletion : Option Completion
  lastCancellation : Option Cancellation
  deriving DecidableEq, Repr

/-- The pins and the supply: the levels on G1 to G6, the MAINT strap as last sampled, the RESET pin, and whether the part
has power (10.8). -/
structure Pins where
  gaps : Vector Bool 6
  maintHigh : Bool
  resetLow : Bool
  powered : Bool
  deriving DecidableEq, Repr

/-! ## The state of the part -/

/-- The whole part. `windowTimer` is none while the configuration window is closed and holds the window timer's last
start while it is open (R158); `resyncOpened` and `holdTimer` hold the start of a running resync window and feeder hold
timer (R50, R122). The other four are the model's own (notes/assumptions/30.md). `handed` holds, within one command, the copies
that the Radio Pairing Unit has handed to the Truck Roster and that wait their turn there as events of their own (R152, R154);
no command leaves one behind. `choices` and `storesTaken` count the free choices and the stores made, so that each takes a
fresh value of Config. `pending` is the queue of commands that wait, first in, first out. -/
structure State where
  now : Time
  pins : Pins
  lock : Bool
  storeCell : StoreCell
  storeJob : Option StoreJob
  settings : Settings
  windowTimer : Option Time
  lanes : Vector LanePort 4
  degraded : Bool
  handed : List (TruckId × Inbound)
  roster : List Truck
  queues : Vector (List QueueEntry) 6
  resyncOpened : Option Time
  sections : Vector SectionRecord 6
  feeders : Vector FeederRecord 6
  holdTimer : Option Time
  breaks : Vector BreakRecord 6
  refreshStart : Time
  events : Vector EventRecord 20
  lastCleared : Vector EventRecord 20
  choices : Nat
  storesTaken : Nat
  pending : List Instr
  deriving DecidableEq, Repr

/-- No command ever stops the HT-640 with a fault: every telegram, edge and expiry has an effect or is turned away with
an answer, a count or an event, so there is no reason to name. -/
inductive Fault where
  deriving DecidableEq, Repr

/-- Why a command has no meaning. -/
inductive Refusal where
  /-- Raised only by an arm of exec whose command has no meaning yet; safe, since nothing can be proved of it. -/
  | notModelled (mnemonic : String)
  deriving DecidableEq, Repr

/-! ## Values at reset -/

/-- A section right after a reset, with nothing on it (R16, R78, R93). -/
def SectionRecord.empty (state : SectionState) : SectionRecord :=
  { state := state, available := 0, spare := 0, holders := [], ramp := [], lastDecrease := none,
    lastStep := none, passPending := false }

/-- A feeder record right after a reset (R141). -/
def FeederRecord.empty : FeederRecord :=
  { lastReport := none, age := .none, effective := 0, overdraw := .clear, restoreEnd := none, nextTurn := none }

/-- A break record right after a reset (R16, R121). -/
def BreakRecord.empty : BreakRecord :=
  { reference := none, lastEdge := none, approaches := [], lastCompletion := none, lastCancellation := none }

/-- A Lane Port right after a power-on at time `now`, at a line rate (R157). -/
def LanePort.fresh (now : Time) (rate : Nat) : LanePort :=
  { state := .await, silenceStart := now, partialFrame := [], lastOctet := now, rx := [], tx := [], sending := none,
    rate := rate, rateChanges := [], counts := LaneCounts.zero, resyncRepeated := false }

/-- A truck record right after a reset or its enrolment (R19, R37). -/
def Truck.fresh (id : TruckId) (cls : ClassId) (floor : Amps) : Truck :=
  { id := id, cls := cls, state := .idle, sec := none, requested := floor, applied := floor, waiting := none,
    lastApplication := none, boost := .none, silent := false, lastHeard := none, slot := none }

/-- The RESYNC of a window that has just opened: DEST 0xFF, urgent (R51, R149). -/
def OutTelegram.resync (remaining : Time) : OutTelegram :=
  { dest := 0xFF, urgent := true, answer := false, payload := .resync remaining }

/-- The part right after its first power-on with MAINT low: the settings store was never written and so fails its check,
the factory defaults and an empty roster are in force, STORE_INVALID is raised and its EVENT waits on the SUPERVISORY
lane, and the resync window is open with its RESYNC on both radio lanes (R165, and R16, R37, R54, R78, R93, R121, R141,
R157, R168 for the blocks). DESIGN CHOICE (notes/assumptions/1.md): the lock cell clear, the timebase at 0, the gap
inputs low. -/
def State.reset : State :=
  { now := 0
    pins := { gaps := Vector.replicate 6 false, maintHigh := false, resetLow := false, powered := true }
    lock := false
    storeCell := .failing
    storeJob := none
    settings := Settings.default
    windowTimer := none
    lanes :=
      #v[LanePort.fresh 0 115200,
         { LanePort.fresh 0 115200 with tx := [OutTelegram.resync 10000] },
         { LanePort.fresh 0 115200 with tx := [OutTelegram.resync 10000] },
         { LanePort.fresh 0 115200 with
            tx := [{ dest := 0xF0, urgent := false, answer := false,
                     payload := .event [(.storeInvalid, .none)] }] }]
    degraded := false
    handed := []
    roster := []
    queues := Vector.replicate 6 []
    resyncOpened := some 0
    sections := Vector.replicate 6 (SectionRecord.empty .unreported)
    feeders := Vector.replicate 6 FeederRecord.empty
    holdTimer := none
    breaks := Vector.replicate 6 BreakRecord.empty
    refreshStart := 0
    events := updateAt (Vector.replicate 20 EventRecord.clear) EventKind.storeInvalid.code
      (fun _ => { flag := true, count := 1, subject := .none })
    lastCleared := Vector.replicate 20 EventRecord.clear
    choices := 0
    storesTaken := 0
    pending := [] }

end Sys2Proof.Machine
end

