-- ==== Sys2Proof/Machine/Operands.lean ====
section
/-! DEFINITION. How the operands of commands are read: the quantum and clamping, member sets, code lists and the items of
SET and GET (10.5, 10.7, R160, R169). -/

namespace Sys2Proof.Machine

/-! ## Figures -/

/-- An ampere value rounded down to the quantum of 25 A (00_scope, Settings). -/
def quantumDown (v : Nat) : Nat := v / 25 * 25

/-- A demand rounded up to the next multiple of 25 A; one on the quantum is kept (R30). -/
def quantumUp (v : Nat) : Nat := (v + 24) / 25 * 25

/-- A value clamped into a range. -/
def clampTo (low high v : Nat) : Nat := max low (min v high)

/-- A value written to an ampere setting: clamped into its range, then rounded down to the quantum (R2, R22). -/
def ampsSetting (low high v : Nat) : Nat := quantumDown (clampTo low high v)

/-- The listed line rates; a value that is none of them becomes the highest not above it, or 19,200 (R143). -/
def rateSetting (v : Nat) : Nat :=
  if 230400 ≤ v then 230400 else if 115200 ≤ v then 115200 else if 38400 ≤ v then 38400 else 19200

/-- Has `len` passed since `start`? A length of exactly `len` counts as passed (R14, R31). -/
def elapsed (start len now : Time) : Bool := start + len ≤ now

/-! ## Sets -/

/-- Is member `n` listed: is bit `n` of the set, read as one number, 1 (R169)? DEDUCED (notes/assumptions/39.md). -/
def MemberSet.lists (m : MemberSet) (n : Nat) : Bool := m.getLsbD n

/-- The listed sections, lowest-numbered first; members outside the numbering are dropped (R160). -/
def MemberSet.sections (m : MemberSet) : List SectionId := allSections.filter fun k => MemberSet.lists m k.val

/-- The listed breaks: member `k` is break `Bk`, so member 0 and members above 6 are dropped (R160, R169).
DEDUCED (notes/assumptions/15.md). -/
def MemberSet.breaks (m : MemberSet) : List BreakId := allBreaks.filter fun b => MemberSet.lists m (breakNumber b)

/-- The listed classes (R160). -/
def MemberSet.classes (m : MemberSet) : List ClassId := allClasses.filter fun c => MemberSet.lists m c.val

/-- The listed lanes (R160). -/
def MemberSet.lanes (m : MemberSet) : List LaneId := allLanes.filter fun l => MemberSet.lists m l.val

/-- The listed event kinds (10.6). -/
def MemberSet.kinds (m : MemberSet) : List EventKind := allEventKinds.filter fun e => MemberSet.lists m e.code.val

/-! ## Code lists (10.5) -/

def SectionState.code : SectionState → Nat
  | .outOfService => 0 | .unreported => 1 | .live => 2 | .dead => 3

def modeCode : Mode → Nat
  | .auto => 0 | .fixed => 1 | .held => 2

def modeOfCode : Nat → Option Mode
  | 0 => some .auto | 1 => some .fixed | 2 => some .held | _ => none

def breakerOfCode : Nat → Option BreakerState
  | 0 => some .closed | 1 => some .openState | 2 => some .tripped | 3 => some .lockedOut | _ => none

/-- The roster state numbering that TABLE_IMAGE uses (10.5). -/
def TruckState.code : TruckState → Nat
  | .idle => 0 | .queued => 1 | .holder => 2 | .approaching => 3 | .cleared => 4 | .suspended => 5

def Rank.code : Rank → Nat
  | .shed => 0 | .raised => 1 | .normal => 2

def LowerReason.code : LowerReason → Nat
  | .shed => 0 | .dead => 1 | .exit => 2 | .queueFull => 3 | .notEnrolled => 4 | .noSection => 5 | .released => 6

def ReplyCode.code : ReplyCode → Nat
  | .accepted => 0 | .clamped => 1 | .notOpen => 2 | .locked => 3 | .busy => 4 | .emptySet => 5
  | .unknownItem => 6 | .truckActive => 7 | .rosterFull => 8 | .unknownTruck => 9 | .wrongCabinet => 10

/-- The subject kind and number of a subject; none is sent as 0 with number 0 (R171). -/
def Subject.codes : Subject → Nat × Nat
  | .none => (0, 0)
  | .truck t => (1, t.toNat)
  | .sec k => (2, k.val)
  | .brk b => (3, breakNumber b)
  | .lane l => (4, l.val)

def Role.code : Role → Nat
  | .unused => 0 | .feeder => 1 | .radioA => 2 | .radioB => 3 | .supervisory => 4

/-- The role a written value gives; a value above the highest code is taken as the highest code (R170). -/
def roleOfValue : Nat → Role
  | 0 => .unused | 1 => .feeder | 2 => .radioA | 3 => .radioB | _ => .supervisory

def PairingMode.code : PairingMode → Nat
  | .either => 0 | .both => 1 | .aOnly => 2 | .bOnly => 3

/-- The pairing mode a written value gives (R170). -/
def pairingModeOfValue : Nat → PairingMode
  | 0 => .either | 1 => .both | 2 => .aOnly | _ => .bOnly

def EdgeSelect.code : EdgeSelect → Nat
  | .rising => 0 | .falling => 1 | .both => 2

/-- The edge select a written value gives (R170). -/
def edgeSelectOfValue : Nat → EdgeSelect
  | 0 => .rising | 1 => .falling | _ => .both

def EvidenceMode.code : EvidenceMode → Nat
  | .sensor => 0 | .telegram => 1 | .either => 2

/-- The evidence mode a written value gives (R170). -/
def evidenceModeOfValue : Nat → EvidenceMode
  | 0 => .sensor | 1 => .telegram | _ => .either

/-- The enabled field and the gap input enable: 0 no, 1 yes, a value above 1 taken as 1 (10.5, R170). -/
def flagOfValue : Nat → Bool
  | 0 => false | _ => true

def flagCode (b : Bool) : Nat := if b then 1 else 0

/-- The type codes of the supervisory commands, which a REPLY names as the type it answers (10.4, R159). -/
def typeConfigOpen : Octet := 0x50
def typeConfigClose : Octet := 0x51
def typeSet : Octet := 0x52
def typeGet : Octet := 0x53
def typeSetMode : Octet := 0x54
def typeEnrol : Octet := 0x55
def typeUnenrol : Octet := 0x56
def typeForceRelease : Octet := 0x57
def typeReadTable : Octet := 0x58
def typeClearEvents : Octet := 0x59
def typeStore : Octet := 0x5A
def typeCommissionLock : Octet := 0x5B
def typeRestart : Octet := 0x5C

/-! ## Items of SET and GET (10.7) -/

/-- Items held once for the part. -/
inductive PartItem where
  | sectionCount | demandInterval | silenceLimit | abandonLimit | refreshInterval | resyncWindow
  | feederHoldTime | fallbackPercentage | restoreWindow | pairingMode | pairingWindow
  | supervisoryMask | feederMask | cabinetIdentity | lockCell
  deriving DecidableEq, Repr

/-- Items held per section. -/
inductive SectionItem where
  | enabled | rating | margin | knee | cut | overdrawTolerance | overdrawPersistence | increaseSpacing | mode
  deriving DecidableEq, Repr

/-- Items held per break. -/
inductive BreakItem where
  | gapEnabled | edgeSelect | deadTime | evidenceMode | gapCurrent | settleTime | gapTimeout
  | evidenceWindow | lateWindow
  deriving DecidableEq, Repr

/-- Items held per class. -/
inductive ClassItem where
  | floor | ceiling | boostCeiling | weight | fixedGrant | rampProfile | boostLimit | boostCooldown
  deriving DecidableEq, Repr

/-- Items held per lane; the last seven are the lane counts. -/
inductive LaneItem where
  | role | lineRate | silenceLimit
  | accepted | checkFailures | corrected | foreignAddress | receiveOverflows | transmitDrops | unpaired
  deriving DecidableEq, Repr

/-- Items held per event kind. -/
inductive EventItem where
  | record | lastCleared
  deriving DecidableEq, Repr

/-- An item with its family (10.7). -/
inductive Item where
  | part (i : PartItem)
  | sec (i : SectionItem)
  | brk (i : BreakItem)
  | cls (i : ClassItem)
  | lane (i : LaneItem)
  | event (i : EventItem)
  deriving DecidableEq, Repr

/-- The item an item code names, or none: "an item that the part does not hold" (R159, 10.7). -/
def itemOfCode : Nat → Option Item
  | 0x01 => some (.part .sectionCount)
  | 0x02 => some (.part .demandInterval)
  | 0x03 => some (.part .silenceLimit)
  | 0x04 => some (.part .abandonLimit)
  | 0x05 => some (.part .refreshInterval)
  | 0x06 => some (.part .resyncWindow)
  | 0x07 => some (.part .feederHoldTime)
  | 0x08 => some (.part .fallbackPercentage)
  | 0x09 => some (.part .restoreWindow)
  | 0x0A => some (.part .pairingMode)
  | 0x0B => some (.part .pairingWindow)
  | 0x0C => some (.part .supervisoryMask)
  | 0x0D => some (.part .feederMask)
  | 0x0E => some (.part .cabinetIdentity)
  | 0x0F => some (.part .lockCell)
  | 0x10 => some (.sec .enabled)
  | 0x11 => some (.sec .rating)
  | 0x12 => some (.sec .margin)
  | 0x13 => some (.sec .knee)
  | 0x14 => some (.sec .cut)
  | 0x15 => some (.sec .overdrawTolerance)
  | 0x16 => some (.sec .overdrawPersistence)
  | 0x17 => some (.sec .increaseSpacing)
  | 0x18 => some (.sec .mode)
  | 0x20 => some (.brk .gapEnabled)
  | 0x21 => some (.brk .edgeSelect)
  | 0x22 => some (.brk .deadTime)
  | 0x23 => some (.brk .evidenceMode)
  | 0x24 => some (.brk .gapCurrent)
  | 0x25 => some (.brk .settleTime)
  | 0x26 => some (.brk .gapTimeout)
  | 0x27 => some (.brk .evidenceWindow)
  | 0x28 => some (.brk .lateWindow)
  | 0x30 => some (.cls .floor)
  | 0x31 => some (.cls .ceiling)
  | 0x32 => some (.cls .boostCeiling)
  | 0x33 => some (.cls .weight)
  | 0x34 => some (.cls .fixedGrant)
  | 0x35 => some (.cls .rampProfile)
  | 0x36 => some (.cls .boostLimit)
  | 0x37 => some (.cls .boostCooldown)
  | 0x40 => some (.lane .role)
  | 0x41 => some (.lane .lineRate)
  | 0x42 => some (.lane .silenceLimit)
  | 0x48 => some (.lane .accepted)
  | 0x49 => some (.lane .checkFailures)
  | 0x4A => some (.lane .corrected)
  | 0x4B => some (.lane .foreignAddress)
  | 0x4C => some (.lane .receiveOverflows)
  | 0x4D => some (.lane .transmitDrops)
  | 0x4E => some (.lane .unpaired)
  | 0x50 => some (.event .record)
  | 0x51 => some (.event .lastCleared)
  | _ => none

/-- Is the item read only to SET: the cabinet identity, the lock cell, a section's mode, a lane count, an event record
or its last-cleared copy (R159)? -/
def Item.isReadOnly : Item → Bool
  | .part .cabinetIdentity => true
  | .part .lockCell => true
  | .sec .mode => true
  | .lane .accepted => true
  | .lane .checkFailures => true
  | .lane .corrected => true
  | .lane .foreignAddress => true
  | .lane .receiveOverflows => true
  | .lane .transmitDrops => true
  | .lane .unpaired => true
  | .event _ => true
  | _ => false

/-- Is the item a commissioning setting, barred while the lock cell is set (R163)? -/
def Item.isCommissioning : Item → Bool
  | .part .sectionCount => true
  | .sec .enabled => true
  | .sec .rating => true
  | .sec .knee => true
  | .sec .cut => true
  | .brk .gapEnabled => true
  | .brk .edgeSelect => true
  | .brk .gapCurrent => true
  | .cls .floor => true
  | .cls .ceiling => true
  | .cls .boostCeiling => true
  | .lane .role => true
  | .lane .lineRate => true
  | _ => false

/-- One member of an item's family; a part-wide item has the one member `part`. -/
inductive Member where
  | part
  | sec (k : SectionId)
  | brk (b : BreakId)
  | cls (c : ClassId)
  | lane (l : LaneId)
  | kind (e : EventKind)
  deriving DecidableEq, Repr

/-- The members a SET or GET reaches, lowest-numbered first; a part-wide item carries no set, so its set field is not
judged (R160). -/
def Item.members (i : Item) (m : MemberSet) : List Member :=
  match i with
  | .part _ => [.part]
  | .sec _ => (MemberSet.sections m).map .sec
  | .brk _ => (MemberSet.breaks m).map .brk
  | .cls _ => (MemberSet.classes m).map .cls
  | .lane _ => (MemberSet.lanes m).map .lane
  | .event _ => (MemberSet.kinds m).map .kind

end Sys2Proof.Machine
end

