-- ==== Sys2Proof/Machine/Flags.lean ====
section
/-! DEFINITION. The flags and counts of the part: the event records (R166, R167) and the lane counts (R151). -/

namespace Sys2Proof.Machine

/-- An occurrence sets the flag, adds one to the count, which stops at 255, and replaces the subject (R166). -/
def EventRecord.occur (r : EventRecord) (subject : Subject) : EventRecord :=
  { flag := true, count := min 255 (r.count + 1), subject := subject }

/-- Raise an event of a kind with its subject (R166). -/
def State.raise (s : State) (kind : EventKind) (subject : Subject) : State :=
  { s with events := updateAt s.events kind.code fun r => r.occur subject }

/-- The record of a kind. -/
def State.eventRecord (s : State) (kind : EventKind) : EventRecord := s.events[kind.code]

/-- Copy a kind's record into its last-cleared copy and clear the record (R166). -/
def State.clearEvent (s : State) (kind : EventKind) : State :=
  { s with
    lastCleared := updateAt s.lastCleared kind.code fun _ => s.events[kind.code]
    events := updateAt s.events kind.code fun _ => EventRecord.clear }

/-- The kinds whose record went from clear to set between two states, in ascending code order (R167). -/
def newlySet (before after : State) : List EventKind :=
  allEventKinds.filter fun e => !before.events[e.code].flag && after.events[e.code].flag

/-- A lane count rises by one and stops at 65,535 (R151). -/
def countUp (n : Nat) : Nat := min 65535 (n + 1)

def LaneCounts.bumpAccepted (c : LaneCounts) : LaneCounts := { c with accepted := countUp c.accepted }
def LaneCounts.bumpCheckFailures (c : LaneCounts) : LaneCounts := { c with checkFailures := countUp c.checkFailures }
def LaneCounts.bumpCorrected (c : LaneCounts) : LaneCounts := { c with corrected := countUp c.corrected }
def LaneCounts.bumpForeign (c : LaneCounts) : LaneCounts := { c with foreignAddress := countUp c.foreignAddress }
def LaneCounts.bumpOverflows (c : LaneCounts) : LaneCounts := { c with receiveOverflows := countUp c.receiveOverflows }
def LaneCounts.bumpDrops (c : LaneCounts) : LaneCounts := { c with transmitDrops := countUp c.transmitDrops }
def LaneCounts.bumpUnpaired (c : LaneCounts) : LaneCounts := { c with unpaired := countUp c.unpaired }

end Sys2Proof.Machine
end

