-- ==== Sys2Proof/Machine/Telegrams.lean ====
section
/-! DEFINITION. The octets of telegrams: the frame check, the CONTROL octet, the payload layouts in both directions
(R144 to R146, R149, R169 to R171, chapter 10). -/

namespace Sys2Proof.Machine

/-! ## CHECK and CONTROL (R145) -/

/-- One bit of the CRC-16 with polynomial x^16 + x^12 + x^5 + 1, most-significant bit first. -/
def crcBit (c : BitVec 16) : BitVec 16 :=
  if c.msb then (c <<< 1) ^^^ 0x1021#16 else c <<< 1

/-- One octet of the CRC-16. -/
def crcOctet (c : BitVec 16) (o : Octet) : BitVec 16 :=
  let c0 := c ^^^ (o.setWidth 16 <<< 8)
  crcBit (crcBit (crcBit (crcBit (crcBit (crcBit (crcBit (crcBit c0)))))))

/-- The CHECK of the octets from CONTROL to the last payload octet: initial value 0xFFFF, no final inversion. -/
def check (octets : List Octet) : BitVec 16 := octets.foldl crcOctet 0xFFFF#16

/-- The protection bits P3 P2 P1 P0 of the information bits D, U and Y (10.2). -/
def protection (d u y : Bool) : BitVec 4 :=
  BitVec.ofBool (d ^^ u) ++ BitVec.ofBool (d ^^ y) ++ BitVec.ofBool (u ^^ y) ++ BitVec.ofBool ((d ^^ u) ^^ y)

/-- The CONTROL octet that carries D, U and Y (10.2). -/
def controlOctet (d u y : Bool) : Octet :=
  BitVec.ofBool true ++ BitVec.ofBool d ++ BitVec.ofBool u ++ BitVec.ofBool y ++ protection d u y

/-- The syndrome of a received CONTROL octet (R145). -/
def syndrome (c : Octet) : BitVec 4 :=
  protection (c.getLsbD 6) (c.getLsbD 5) (c.getLsbD 4) ^^^ c.setWidth 4

/-- The bit that a syndrome shows to be in error, as a mask over CONTROL: 0 for a sound octet, none for the eight
syndromes that are check failures (10.2). -/
def errorMask (syn : BitVec 4) : Option Octet :=
  if syn = 0b0000#4 then some 0x00
  else if syn = 0b1101#4 then some 0x40
  else if syn = 0b1011#4 then some 0x20
  else if syn = 0b0111#4 then some 0x10
  else if syn = 0b1000#4 then some 0x08
  else if syn = 0b0100#4 then some 0x04
  else if syn = 0b0010#4 then some 0x02
  else if syn = 0b0001#4 then some 0x01
  else none

/-- Judge a CONTROL octet: the octet after any repair and whether it was repaired, or none for a check failure; bit 7
must be 1 (R145). -/
def judgeControl (c : Octet) : Option (Octet × Bool) :=
  if c.getLsbD 7 then
    match errorMask (syndrome c) with
    | some mask => some (c ^^^ mask, mask ≠ 0)
    | none => none
  else none

/-- The D bit of a CONTROL octet. -/
def controlD (c : Octet) : Bool := c.getLsbD 6

/-! ## Frames -/

/-- The fields of a received frame. -/
structure Frame where
  control : Octet
  dest : Octet
  src : Octet
  type : Octet
  payload : List Octet
  checkOctets : BitVec 16
  deriving DecidableEq, Repr

/-- The LENGTH octet, once the header has been received. -/
def frameLength (octets : List Octet) : Option Nat := (octets[5]?).map (·.toNat)

/-- Is the frame whole: start octet, header, LENGTH payload octets and the two CHECK octets (R144)? -/
def frameComplete (octets : List Octet) : Bool :=
  match frameLength octets with
  | some n => octets.length == n + 8
  | none => false

/-- The fields of a whole frame. -/
def frameOf (octets : List Octet) : Option Frame :=
  match octets with
  | _ :: control :: dest :: src :: type :: length :: rest =>
    match rest.drop length.toNat with
    | [high, low] =>
      some { control := control, dest := dest, src := src, type := type,
             payload := rest.take length.toNat, checkOctets := high ++ low }
    | _ => none
  | _ => none

/-- The octets the CHECK covers, with a given CONTROL octet (R145). -/
def Frame.covered (f : Frame) (control : Octet) : List Octet :=
  [control, f.dest, f.src, f.type, BitVec.ofNat 8 f.payload.length] ++ f.payload

/-! ## Payloads received (10.4, R169, R170) -/

/-- Two octets, high-order first. -/
def u16 (a b : Octet) : BitVec 16 := a ++ b

/-- A set of three octets, read as one number, high-order octet first (R169). DEDUCED (notes/assumptions/39.md). -/
def u24 (a b c : Octet) : BitVec 24 := a ++ b ++ c

/-- A value of four octets. -/
def u32 (a b c d : Octet) : BitVec 32 := a ++ b ++ c ++ d

/-- The cabinet identity of six octets. -/
def u48 (a b c d e f : Octet) : BitVec 48 := a ++ b ++ c ++ d ++ e ++ f

/-- Decode a payload against the layout of its TYPE: none when the length differs from the layout's or a coded octet
holds a value outside its code list (R170). -/
def decodePayload (type : Octet) (payload : List Octet) : Option Inbound :=
  match type.toNat, payload with
  | 0x10, [sec, d1, d0, flags] => some (.truckAdmit sec (u16 d1 d0) flags)
  | 0x11, [d1, d0, flags] => some (.truckDemand (u16 d1 d0) flags)
  | 0x12, [k] => some (.truckApproach k)
  | 0x13, [k] => some (.truckPassed k)
  | 0x14, [] => some .truckLowered
  | 0x30, [status] => some (.linkBeacon status)
  | 0x40, [feeder, breaker, c1, c0, m1, m0, v1, v0] =>
    (breakerOfCode breaker.toNat).map fun b => .feederReport feeder b (u16 c1 c0) (u16 m1 m0) (u16 v1 v0)
  | 0x50, [a, b, c, d, e, f] => some (.configOpen (u48 a b c d e f))
  | 0x51, [] => some .configClose
  | 0x52, [item, m2, m1, m0, v3, v2, v1, v0] => some (.setItem item (u24 m2 m1 m0) (u32 v3 v2 v1 v0))
  | 0x53, [item, m2, m1, m0] => some (.getItem item (u24 m2 m1 m0))
  | 0x54, [m2, m1, m0, mode] => (modeOfCode mode.toNat).map fun md => .setMode (u24 m2 m1 m0) md
  | 0x55, [truck, cls] => some (.enrol truck cls)
  | 0x56, [truck] => some (.unenrol truck)
  | 0x57, [truck] => some (.forceRelease truck)
  | 0x58, [m2, m1, m0] => some (.readTable (u24 m2 m1 m0))
  | 0x59, [m2, m1, m0] => some (.clearEvents (u24 m2 m1 m0))
  | 0x5A, [] => some .store
  | 0x5B, [] => some .commissionLock
  | 0x5C, [] => some .restart
  | _, _ => none

/-- Does the role of a lane allow this pair of SRC and TYPE (R146)? -/
def roleAllows (role : Role) (src type : Octet) : Bool :=
  let truckPair := isTruckAddress src && (0x10 ≤ type.toNat && type.toNat ≤ 0x14)
  match role with
  | .unused => false
  | .feeder => src == 0xF1 && type == 0x40
  | .supervisory => src == 0xF0 && (0x50 ≤ type.toNat && type.toNat ≤ 0x5C)
  | .radioA => truckPair || (src == 0xF8 && type == 0x30)
  | .radioB => truckPair || (src == 0xF9 && type == 0x30)

/-! ## Payloads sent (10.4, R169, R171) -/

/-- One octet. -/
def enc8 (n : Nat) : List Octet := [BitVec.ofNat 8 n]

/-- Two octets, high-order first. -/
def enc16 (n : Nat) : List Octet := [BitVec.ofNat 8 (n / 256), BitVec.ofNat 8 n]

/-- Four octets, high-order first. -/
def enc32 (n : Nat) : List Octet := enc16 (n / 65536) ++ enc16 n

/-- Six octets, high-order first. -/
def enc48 (n : Nat) : List Octet := enc16 (n / 4294967296) ++ enc32 n

/-- The value of a REPLY (R169). -/
def ReplyValue.octets : ReplyValue → List Octet
  | .word v => enc32 v
  | .identity v => enc48 v.toNat

/-- One holder of a TABLE_IMAGE: eight octets (R171). -/
def HolderImage.octets (h : HolderImage) : List Octet :=
  [h.truck] ++ enc8 h.state.code ++ enc16 h.issued ++ enc16 h.target ++ enc16 h.applied

/-- One approach entry of a TABLE_IMAGE: seven octets, the reservation amount 0 for EXIT (R171). -/
def ApproachImage.octets (a : ApproachImage) : List Octet :=
  [a.truck] ++ enc8 (if a.reservation.isSome then 0 else 1) ++ enc8 (flagCode a.isCleared) ++ enc16 a.gapGrant
    ++ enc16 (a.reservation.getD 0)

/-- One queue entry of a TABLE_IMAGE: three octets (R171). -/
def QueueImage.octets (q : QueueImage) : List Octet := enc8 q.position ++ [q.truck] ++ enc8 q.rank.code

/-- A TABLE_IMAGE (R171). -/
def TableImage.octets (t : TableImage) : List Octet :=
  enc8 t.sec.val ++ enc8 t.state.code ++ enc8 (modeCode t.mode)
    ++ enc16 t.effective ++ enc16 t.available ++ enc16 t.spare
    ++ enc8 t.holders.length ++ (t.holders.map HolderImage.octets).flatten
    ++ enc8 t.approaches.length ++ (t.approaches.map ApproachImage.octets).flatten
    ++ enc8 t.queue.length ++ (t.queue.map QueueImage.octets).flatten

/-- One kind of an EVENT: kind code, subject kind, subject number (R171). -/
def eventOctets (e : EventKind × Subject) : List Octet :=
  enc8 e.1.code.val ++ enc8 e.2.codes.1 ++ enc8 e.2.codes.2

/-- The TYPE of a telegram the part sends (10.4). -/
def Payload.type : Payload → Octet
  | .grant .. => 0x20
  | .queued .. => 0x21
  | .clearToCross .. => 0x22
  | .lower .. => 0x23
  | .resync .. => 0x24
  | .sectionLoad .. => 0x41
  | .reply .. => 0x60
  | .tableImage .. => 0x61
  | .event .. => 0x62

/-- The payload octets of a telegram the part sends (10.4, R169). Bits 7 to 1 of the flags octet of a GRANT, of which R169 gives
bit 0 alone, are sent as 0. DESIGN CHOICE (notes/assumptions/42.md). -/
def Payload.octets : Payload → List Octet
  | .grant sec issued target boost => enc8 sec.val ++ enc16 issued ++ enc16 target ++ enc8 (flagCode boost)
  | .queued sec position => enc8 sec.val ++ enc8 position
  | .clearToCross brk => enc8 (breakNumber brk)
  | .lower reason none => enc8 reason.code
  | .lower reason (some brk) => enc8 reason.code ++ enc8 (breakNumber brk)
  | .resync remaining => enc16 remaining
  | .sectionLoad sec issued target holders => enc8 sec.val ++ enc16 issued ++ enc16 target ++ enc8 holders
  | .reply code answered item none => enc8 code.code ++ [answered] ++ [item]
  | .reply code answered item (some v) => enc8 code.code ++ [answered] ++ [item] ++ v.octets
  | .tableImage image => image.octets
  | .event kinds => enc8 kinds.length ++ (kinds.map eventOctets).flatten

/-- The frame of a telegram the part sends: SRC 0xFE, the D bit set, U and Y as the telegram carries them (R149). -/
def OutTelegram.frame (t : OutTelegram) : List Octet :=
  let body := [controlOctet true t.urgent t.answer, t.dest, 0xFE#8, t.payload.type,
               BitVec.ofNat 8 t.payload.octets.length] ++ t.payload.octets
  [0xC5#8] ++ body ++ enc16 (check body).toNat

end Sys2Proof.Machine
end

