-- ==== Sys2Proof/Machine/Ops.lean ====
section
/-! DEFINITION. The operations the commands are made of: reading and changing the records, sending telegrams, place
replies, boosts, admission queues and releases. The part takes no exceptions: where a processor would take one, the
HT-640 raises an event (Flags.lean) or answers with a telegram. -/

namespace Sys2Proof.Machine

/-! ## Reading and changing the records -/

/-- Does the part run: it has power and the RESET pin is not low (10.8, R162)? -/
def State.running (s : State) : Bool := s.pins.powered && !s.pins.resetLow

def State.onSection (s : State) (k : SectionId) (f : SectionRecord → SectionRecord) : State :=
  { s with sections := updateAt s.sections k f }

def State.onFeeder (s : State) (k : SectionId) (f : FeederRecord → FeederRecord) : State :=
  { s with feeders := updateAt s.feeders k f }

def State.onBreak (s : State) (b : BreakId) (f : BreakRecord → BreakRecord) : State :=
  { s with breaks := updateAt s.breaks b f }

def State.onLane (s : State) (l : LaneId) (f : LanePort → LanePort) : State :=
  { s with lanes := updateAt s.lanes l f }

def State.onQueue (s : State) (k : SectionId) (f : List QueueEntry → List QueueEntry) : State :=
  { s with queues := updateAt s.queues k f }

/-- Change the record of a truck, if it has one. -/
def State.onTruck (s : State) (t : TruckId) (f : Truck → Truck) : State :=
  { s with roster := s.roster.map fun r => if r.id = t then f r else r }

/-- The record of a truck ID, if it has one (R17). -/
def State.truck? (s : State) (t : TruckId) : Option Truck := s.roster.find? fun r => r.id == t

/-- Where a truck stands; an ID with no record stands nowhere (R25). -/
def State.truckState (s : State) (t : TruckId) : TruckState :=
  match s.truck? t with
  | some r => r.state
  | none => .idle

/-- The class record of a truck (R22); every truck of a queue, holder list or approach queue has a record, so the
second case is never read for one. DESIGN CHOICE (notes/assumptions/26.md). -/
def State.classOf (s : State) (t : TruckId) : ClassRecord :=
  match s.truck? t with
  | some r => s.settings.classes[r.cls]
  | none => s.settings.classes[(0 : ClassId)]

/-- The class floor of a truck. -/
def State.floorOf (s : State) (t : TruckId) : Amps := (s.classOf t).floor

/-- Is the truck an ordinary holder: state HOLDER (R17)? -/
def State.isOrdinary (s : State) (t : TruckId) : Bool := s.truckState t == .holder

/-- Is the truck SUSPENDED? -/
def State.isSuspended (s : State) (t : TruckId) : Bool := s.truckState t == .suspended

def State.isLive (s : State) (k : SectionId) : Bool := s.sections[k].state == .live

/-- Is the section in service (R3)? -/
def State.inService (s : State) (k : SectionId) : Bool := s.sections[k].state != .outOfService

/-- Is the section in OVERDRAW (R138)? -/
def State.inOverdraw (s : State) (k : SectionId) : Bool := s.feeders[k].overdraw == .declared

/-- Is the break in use: B1 to BN (R1)? -/
def State.breakInUse (s : State) (b : BreakId) : Bool := breakNumber b ≤ s.settings.sectionCount

/-- Is the break the crest break BN (R1)? -/
def State.isCrest (s : State) (b : BreakId) : Bool := breakNumber b == s.settings.sectionCount

/-- The section above a break: `Sk` above `Bk`; none above B6. -/
def sectionAbove (b : BreakId) : Option SectionId :=
  if h : b.val + 1 < 6 then some ⟨b.val + 1, h⟩ else none

/-- The break below a section: `Bk` below `Sk`; none below S0. -/
def breakBelow (k : SectionId) : Option BreakId :=
  if k.val = 0 then none else some ⟨k.val - 1, by omega⟩

/-- The section a number names, if the part has one of that number (R43, R123). -/
def sectionOfNumber (n : Nat) : Option SectionId := if h : n < 6 then some ⟨n, h⟩ else none

/-- The break a number names, if the part has one of that number (R103). -/
def breakOfNumber (n : Nat) : Option BreakId := if h : 1 ≤ n ∧ n ≤ 6 then some ⟨n - 1, by omega⟩ else none

/-- The lane that holds a role; each role other than UNUSED is held by at most one lane (R142). -/
def State.laneOfRole (s : State) (r : Role) : Option LaneId := allLanes.find? fun l => s.settings.lanes[l].role == r

/-! ## Sending telegrams (R149, R150, R155) -/

/-- Is the telegram a GRANT or a QUEUED, which may replace and be replaced (R150)? -/
def OutTelegram.replaceable (t : OutTelegram) : Bool :=
  match t.payload with
  | .grant .. => true
  | .queued .. => true
  | _ => false

/-- Replace the first telegram to the same address in a list (the last one, for a queue read from its tail), if it is
replaceable; none if there is no such telegram or it is of another type (R150). -/
def replaceFirst (t : OutTelegram) : List OutTelegram → Option (List OutTelegram)
  | [] => none
  | x :: rest =>
    if x.dest = t.dest then
      if x.replaceable then some (t :: rest) else none
    else (replaceFirst t rest).map (x :: ·)

/-- The transmit queue after a telegram that may replace one in place has replaced it, or none (R150). -/
def replacedIn (t : OutTelegram) (tx : List OutTelegram) : Option (List OutTelegram) :=
  if t.replaceable then (replaceFirst t tx.reverse).map List.reverse else none

/-- Offer a telegram to a lane's transmit queue of 16: replace in place, append at the tail, or drop and count (R149,
R150). -/
def LanePort.offer (p : LanePort) (t : OutTelegram) : LanePort :=
  match replacedIn t p.tx with
  | some tx => { p with tx := tx }
  | none =>
    if p.tx.length < 16 then { p with tx := p.tx ++ [t] }
    else { p with counts := p.counts.bumpDrops }

/-- Queue a telegram on one lane. -/
def State.sendOn (s : State) (l : LaneId) (t : OutTelegram) : State := s.onLane l fun p => p.offer t

/-- Queue a telegram on the lane that holds a role; a telegram for a role that no lane holds is queued nowhere (R142). -/
def State.sendRole (s : State) (r : Role) (t : OutTelegram) : State :=
  match s.laneOfRole r with
  | some l => s.sendOn l t
  | none => s

/-- The roles whose lanes carry telegrams to trucks under the pairing mode (R155). -/
def truckRoles : PairingMode → List Role
  | .either => [.radioA, .radioB]
  | .both => [.radioA, .radioB]
  | .aOnly => [.radioA]
  | .bOnly => [.radioB]

/-- Queue a telegram on the lane of a radio role, unless that lane is QUIET (R155). -/
def State.sendRadio (s : State) (t : OutTelegram) (r : Role) : State :=
  match s.laneOfRole r with
  | some l => if s.lanes[l].state = .quiet then s else s.sendOn l t
  | none => s

/-- Send a telegram to a truck, or to all trucks, on each lane that carries such telegrams (R155). -/
def State.sendTruck (s : State) (t : OutTelegram) : State :=
  (truckRoles s.settings.pairingMode).foldl (fun s r => s.sendRadio t r) s

/-- A LOWER to a truck; every LOWER is urgent (R149). -/
def State.sendLower (s : State) (t : TruckId) (reason : LowerReason) (brk : Option BreakId := none)
    (place : Bool := false) : State :=
  s.sendTruck { dest := t, urgent := true, answer := place, payload := .lower reason brk }

/-- The REPLY to a supervisory command; its item octet is 0 but for SET and GET (R159). -/
def State.reply (s : State) (code : ReplyCode) (answered : Octet) (item : Octet := 0)
    (value : Option ReplyValue := none) : State :=
  s.sendRole .supervisory { dest := 0xF0, urgent := false, answer := true,
                            payload := .reply code answered item value }

/-! ## Holders and GRANT -/

/-- The entry of a truck on a holder list. -/
def holderIn (holders : List Holder) (t : TruckId) : Option Holder := holders.find? fun h => h.truck == t

/-- The section and entry of a truck that stands on a holder list. -/
def State.holder? (s : State) (t : TruckId) : Option (SectionId × Holder) :=
  allSections.findSome? fun k => (holderIn s.sections[k].holders t).map fun h => (k, h)

/-- Did a truck's issued grant fall between two states? A GRANT formed in such an event is urgent (R149), and goes out ahead of
the others of its pass (R91). A truck that has moved from one section's holder list to another's, by a late crossing or a
HANDOVER, is judged by its issued grants on the two lists. DESIGN CHOICE (notes/assumptions/43.md). -/
def issuedFell (before after : State) (t : TruckId) : Bool :=
  match before.holder? t, after.holder? t with
  | some (_, h0), some (_, h1) => h1.issued < h0.issued
  | _, _ => false

/-- Is the truck's boost ACTIVE? -/
def Boost.isActive : Boost → Bool
  | .active _ => true
  | _ => false

/-- Is the truck's boost in COOLDOWN? -/
def Boost.isCooldown : Boost → Bool
  | .cooldown _ => true
  | _ => false

def State.boostActive (s : State) (t : TruckId) : Bool :=
  match s.truck? t with
  | some r => r.boost.isActive
  | none => false

/-- Send a holder the GRANT with its values as they stand (R91); `before` is the state at the start of the event. -/
def State.sendGrant (before s : State) (k : SectionId) (h : Holder) (place : Bool := false) : State :=
  s.sendTruck { dest := h.truck, urgent := issuedFell before s h.truck, answer := place,
                payload := .grant k h.issued h.target (s.boostActive h.truck) }

/-! ## Admission queues (R38 to R41) -/

/-- The position of a truck in a queue, counted from 1 at the head. -/
def positionOf (q : List QueueEntry) (t : TruckId) : Nat := q.findIdx (fun e => e.truck == t) + 1

/-- The QUEUED that tells a truck its position in a section's queue (R41, R149). -/
def queuedTelegram (k : SectionId) (t : TruckId) (position : Nat) (place : Bool) : OutTelegram :=
  { dest := t, urgent := false, answer := place, payload := .queued k position }

/-- Send a queued truck its present position and set its reported position (R27, R29, R41). -/
def State.sendQueued (s : State) (k : SectionId) (t : TruckId) (place : Bool := false) : State :=
  let position := positionOf s.queues[k] t
  (s.sendTruck (queuedTelegram k t position place)).onQueue k
    fun q => q.map fun e => if e.truck = t then { e with reported := some position } else e

/-- The trucks of a queue whose position differs from their reported position, each with its position, head first; the head
of the list stands at position `n`. -/
def staleFrom : Nat → List QueueEntry → List (TruckId × Nat)
  | _, [] => []
  | n, e :: rest => if e.reported = some n then staleFrom (n + 1) rest else (e.truck, n) :: staleFrom (n + 1) rest

/-- The queue with every entry told the position it stands at. -/
def toldFrom : Nat → List QueueEntry → List QueueEntry
  | _, [] => []
  | n, e :: rest => { e with reported := some n } :: toldFrom (n + 1) rest

/-- Position reports of one queue at the end of an event: each entry whose position has changed is told, and the reported
positions are set (R41). -/
def State.reportPositions (s : State) (k : SectionId) : State :=
  ((staleFrom 1 s.queues[k]).foldl (fun s p => s.sendTruck (queuedTelegram k p.1 p.2 false)) s).onQueue k (toldFrom 1)

/-- Position reports of every queue (R41). -/
def State.reportAllPositions (s : State) : State := allSections.foldl (fun s k => s.reportPositions k) s

/-- How many entries stand behind the last SHED or RAISED entry. -/
def normalTail (q : List QueueEntry) : Nat := (q.reverse.takeWhile fun e => e.rank == .normal).length

/-- Place a new entry by its rank: SHED at the head, RAISED directly behind the last SHED or RAISED entry, NORMAL at the
tail (R39). -/
def placeEntry (q : List QueueEntry) (e : QueueEntry) : List QueueEntry :=
  match e.rank with
  | .shed => e :: q
  | .raised => q.take (q.length - normalTail q) ++ [e] ++ q.drop (q.length - normalTail q)
  | .normal => q ++ [e]

/-- Would a new entry of this rank be placed ahead of the tail entry of the queue (R40)? -/
def aheadOfTail (q : List QueueEntry) : Rank → Bool
  | .shed => true
  | .raised => 0 < normalTail q
  | .normal => false

/-- The queue after an arrival and the entry displaced from a full one; none when the arrival is refused (R40). -/
def arrival (q : List QueueEntry) (e : QueueEntry) : Option (List QueueEntry × Option QueueEntry) :=
  if q.length < 8 then some (placeEntry q e, none)
  else if aheadOfTail q e.rank then some (placeEntry q.dropLast e, q.getLast?)
  else none

/-! ## Demands and boosts on a record (R24, R30 to R33) -/

/-- The applied demand: the requested demand clamped between the class floor and the ceiling, or the boost ceiling while
the boost is ACTIVE (R30). -/
def appliedDemand (c : ClassRecord) (boost : Boost) (requested : Amps) : Amps :=
  clampTo c.floor (if boost.isActive then c.boostCeiling else c.ceiling) requested

/-- Work the applied demand out again from the requested demand (R24, R30). -/
def Truck.reclamp (c : ClassRecord) (r : Truck) : Truck := { r with applied := appliedDemand c r.boost r.requested }

/-- The boost state after a boost end: COOLDOWN for the class cooldown, or NONE if that is 0 (R33). -/
def boostAfterEnd (c : ClassRecord) (now : Time) : Boost :=
  if c.boostCooldown = 0 then .none else .cooldown (now + c.boostCooldown * 1000)

/-- End the boost of a record, if it is ACTIVE, with the effects of a boost end on the record (R33). -/
def Truck.endBoost (c : ClassRecord) (now : Time) (r : Truck) : Truck :=
  if r.boost.isActive then Truck.reclamp c { r with boost := boostAfterEnd c now } else r

/-- End a truck's boost, if it is ACTIVE, with no pass of its own (R33). -/
def State.endBoost (s : State) (t : TruckId) : State := s.onTruck t fun r => r.endBoost (s.classOf t) s.now

/-- The record of a truck that is IDLE again: a boost ended, the pending demand discarded, the silent flag cleared, no
section (R21 steps 4 and 5). -/
def Truck.toIdle (c : ClassRecord) (now : Time) (r : Truck) : Truck :=
  { r.endBoost c now with waiting := none, silent := false, sec := none, state := .idle }

def State.toIdle (s : State) (t : TruckId) : State := s.onTruck t fun r => r.toIdle (s.classOf t) s.now

/-! ## Entering a queue (R40, R42, R47) -/

/-- A truck displaced from a full queue, or refused at one, is IDLE and told so (R40). -/
def State.turnAway (s : State) (t : TruckId) : State :=
  ((s.toIdle t).sendLower t .queueFull).raise .queueFull (.truck t)

/-- Enter a truck in a queue: its state becomes QUEUED in that section, and a displaced truck is turned away; a refused
truck is turned away itself (R40). -/
def State.enterQueue (s : State) (k : SectionId) (t : TruckId) (rank : Rank) : State :=
  match arrival s.queues[k] { truck := t, rank := rank, reported := none } with
  | none => s.turnAway t
  | some (q, displaced) =>
    let s1 := (s.onQueue k fun _ => q).onTruck t fun r => { r with state := .queued, sec := some k }
    match displaced with
    | some e => s1.turnAway e.truck
    | none => s1

/-! ## Leaving a place (R21, R83) -/

/-- Does a holder list hold a SUSPENDED truck? -/
def State.hasSuspended (s : State) (k : SectionId) : Bool := s.sections[k].holders.any fun h => s.isSuspended h.truck

/-- The restore window stops, without release and without an event, when the last SUSPENDED holder has left the list
(R135). -/
def State.stopIdleRestore (s : State) (k : SectionId) : State :=
  if s.hasSuspended k then s else s.onFeeder k fun f => { f with restoreEnd := none }

/-- Take a truck off a section's holder list and out of its ramp queue; `decrease` says whether a fall of its issued
grant to 0 sets the last-decrease time (R83). -/
def SectionRecord.dropHolder (now : Time) (t : TruckId) (decrease : Bool) (r : SectionRecord) : SectionRecord :=
  let fell := match holderIn r.holders t with
    | some h => decrease && 0 < h.issued
    | none => false
  { r with
    holders := r.holders.filter fun h => h.truck ≠ t
    ramp := r.ramp.filter fun e => e.truck ≠ t
    lastDecrease := if fell then some now else r.lastDecrease }

/-- Take a truck out of its section's holder list (R21 step 2). -/
def State.leaveHolders (s : State) (k : SectionId) (t : TruckId) (decrease : Bool) : State :=
  (s.onSection k fun r => r.dropHolder s.now t decrease).stopIdleRestore k

/-- The approach entry of a truck at a break. -/
def entryOf (approaches : List ApproachEntry) (t : TruckId) : Option ApproachEntry :=
  approaches.find? fun e => e.truck == t

/-- Remove a truck's approach entry at a break, which stops its timers and releases any reservation (R21 step 3). -/
def State.dropApproach (s : State) (b : BreakId) (t : TruckId) : State :=
  s.onBreak b fun r => { r with approaches := r.approaches.filter fun e => e.truck ≠ t }

/-- The reservation amount of an entry: 0 for EXIT, which reserves nothing. -/
def ApproachEntry.reservation (e : ApproachEntry) : Amps :=
  match e.kind with
  | .handover amount => amount
  | .exit => 0

/-- Is the entry a HANDOVER entry? -/
def ApproachEntry.isHandover (e : ApproachEntry) : Bool :=
  match e.kind with
  | .handover _ => true
  | .exit => false

/-- Is the entry CLEARED? -/
def ApproachEntry.isCleared (e : ApproachEntry) : Bool :=
  match e.state with
  | .cleared _ => true
  | .approaching => false

/-- The sections a release of the truck affects: the one it was queued in or held, and the one above the break where its
entry held a reservation (R21 step 6). -/
def State.placesOf (s : State) (t : TruckId) : List SectionId :=
  match s.truck? t with
  | none => []
  | some r =>
    match r.sec with
    | none => []
    | some k =>
      match entryOf s.breaks[k].approaches t, sectionAbove k with
      | some e, some above => if e.isHandover then [k, above] else [k]
      | _, _ => [k]

/-- Take a truck out of every place it holds and make it IDLE, with no pass and no telegram (R21 steps 1 to 5): its queue
entry, its holder entry with its ramp entry, and its approach entry at the break above its section. -/
def State.vacate (s : State) (t : TruckId) (decrease : Bool) : State :=
  match s.truck? t with
  | none => s
  | some r =>
    match r.sec with
    | none => s.toIdle t
    | some k =>
      (((s.onQueue k fun q => q.filter fun e => e.truck ≠ t).dropApproach k t).leaveHolders k t decrease).toIdle t

/-! ## Place replies (R27) -/

/-- The place reply tells a truck where the part has it, without changing anything but its reported position. -/
def State.placeReply (before s : State) (t : TruckId) : State :=
  match s.truck? t with
  | none => s
  | some r =>
    match r.state, r.sec with
    | .idle, _ => s.sendLower t .released none true
    | .queued, some k => s.sendQueued k t true
    | _, some k =>
      match holderIn s.sections[k].holders t with
      | some h => State.sendGrant before s k h true
      | none => s
    | _, none => s

/-! ## The end of an event (R41, R167) -/

/-- The EVENT of one role for the kinds newly set in an event, if its mask holds any of them (R167): it lists those that the
mask holds and no others. DESIGN CHOICE (notes/assumptions/38.md). -/
def State.sendEvents (s : State) (kinds : List EventKind) (role : Role) (mask : MemberSet) (dest : Octet) : State :=
  match kinds.filter fun e => MemberSet.lists mask e.code.val with
  | [] => s
  | listed => s.sendRole role { dest := dest, urgent := false, answer := false,
                                payload := .event (listed.map fun e => (e, s.events[e.code].subject)) }

/-- At the end of an event one EVENT goes to each subscribed role for the records that went from clear to set (R167). -/
def State.flushEvents (before s : State) : State :=
  let kinds := newlySet before s
  (s.sendEvents kinds .feeder s.settings.feederMask 0xF1).sendEvents kinds .supervisory
    s.settings.supervisoryMask 0xF0

/-- The end of an event that may have moved queue entries or raised events: the position reports, then the EVENTs.
DESIGN CHOICE (notes/assumptions/9.md). The handling of a telegram ends with it once, also where the part that deals with a
silent truck, or releases an old place, counts as an event of its own for the GRANTs.
DESIGN CHOICE (notes/assumptions/41.md). -/
def State.finish (before s : State) : State := State.flushEvents before s.reportAllPositions

/-! ## Effective capacity (R6, R124) -/

/-- The effective capacity a report gives with a section's settings (R124). -/
def effectiveCapacity (c : SectionSettings) (f : FeederFigures) : Amps :=
  if f.breaker = .closed then
    let base := min f.capacity c.rating
    if c.knee ≤ f.volts then quantumDown base
    else if f.volts ≤ c.cut then 0
    else quantumDown (base * (f.volts - c.cut) / (c.knee - c.cut))
  else 0

/-- Set the effective capacity of a section, and its available capacity A with it: the effective capacity less the margin,
never below 0; in a section that is not LIVE both are 0 (R6, R124). -/
def State.setEffective (s : State) (k : SectionId) (amps : Amps) : State :=
  let e := if s.isLive k then amps else 0
  (s.onFeeder k fun f => { f with effective := e }).onSection k fun r =>
    { r with available := e - s.settings.sections[k].margin }

/-! ## Passes that are called for as events of their own (R6, R59, R160) -/

/-- Call for a pass on a section as an event of its own; a cause at a section that is not LIVE runs no pass and is not
remembered (R60). DEDUCED (notes/assumptions/5.md). Causes that call before the pass has run are served by the one pass.
DESIGN CHOICE (notes/assumptions/34.md). -/
def State.callPass (s : State) (k : SectionId) : State :=
  if s.isLive k then s.onSection k fun r => { r with passPending := true } else s

/-! ## Commands as outcomes -/

/-- A command's effect while the part runs; without power or in reset the part does nothing (R162).
DEDUCED (notes/assumptions/21.md). -/
def whileRunning (s : State) (f : State → State) : Host.Outcome State Fault Refusal :=
  .next (if s.running then f s else s)

end Sys2Proof.Machine
end

