-- ==== Sys2Proof/Machine/Pass.lean ====
section
/-! DEFINITION. The allocation pass (R55 to R76) and the hand-off to the Grant Issue Unit (R79 to R91): the deficit check,
admission service, the floor issue, the fill, the ramp queue, and the ALLOCATION_PASS and RAMP_STEP commands. -/

namespace Sys2Proof.Machine

/-! ## Committed load (R57) -/

/-- The gap grants of a section's APPROACHING and CLEARED holders: the entries at the break above it. -/
def State.gapUse (s : State) (k : SectionId) : Amps := (s.breaks[k].approaches.map fun e => e.gapGrant).sum

/-- The HANDOVER entries into a section: those at the break below it, oldest first; S0 has none. -/
def State.handoversInto (s : State) (k : SectionId) : List ApproachEntry :=
  match breakBelow k with
  | some b => s.breaks[b].approaches.filter fun e => e.isHandover
  | none => []

/-- The reservation amounts of the HANDOVER entries into a section. -/
def State.reservedInto (s : State) (k : SectionId) : Amps := ((s.handoversInto k).map fun e => e.reservation).sum

/-- Is the truck an ordinary or a SUSPENDED holder, whose floor counts in the committed load? -/
def State.countsFloor (s : State) (t : TruckId) : Bool := s.isOrdinary t || s.isSuspended t

/-- The class floors of a section's ordinary and SUSPENDED holders. -/
def State.floorUse (s : State) (k : SectionId) : Amps :=
  ((s.sections[k].holders.filter fun h => s.countsFloor h.truck).map fun h => s.floorOf h.truck).sum

/-- The current a section must carry before any share is handed out (R57). -/
def State.committed (s : State) (k : SectionId) : Amps := s.gapUse k + s.reservedInto k + s.floorUse k

/-- The holder slots in use: the holders plus the HANDOVER entries into the section (R56). -/
def State.slotsUsed (s : State) (k : SectionId) : Nat := s.sections[k].holders.length + (s.handoversInto k).length

/-- Is a holder slot free (R56)? -/
def State.slotFree (s : State) (k : SectionId) : Bool := s.slotsUsed k < 6

/-! ## The deficit check (R63 to R66) -/

/-- The newest APPROACHING or CLEARED holder of a section that still has a gap grant above 0. -/
def State.newestGap (s : State) (k : SectionId) : Option TruckId :=
  (s.breaks[k].approaches.reverse.find? fun e => 0 < e.gapGrant).map fun e => e.truck

/-- Take a gap grant: it becomes 0, and the entry, its settle time and its gap timer stay as they were (R64). -/
def State.takeGap (s : State) (k : SectionId) (t : TruckId) : State :=
  s.onBreak k fun r =>
    { r with approaches := r.approaches.map fun e => if e.truck = t then { e with gapGrant := 0 } else e }

/-- Turn a truck's HANDOVER entry at a break into an EXIT entry: the reservation is released and HANDOVER_REFUSED is
raised; a CLEARED entry's truck is sent the LOWER with its reason and the break at once, an APPROACHING one is told at
clearance (R65, R113). -/
def State.refuse (s : State) (b : BreakId) (e : ApproachEntry) (reason : LowerReason) : State :=
  let s1 := (s.onBreak b fun r =>
    { r with approaches := r.approaches.map fun x => if x.truck = e.truck then { x with kind := .exit } else x }).raise
      .handoverRefused (.brk b)
  if e.isCleared then s1.sendLower e.truck reason (some b) else s1

/-- The newest ordinary or SUSPENDED holder of a section. -/
def State.newestSheddable (s : State) (k : SectionId) : Option TruckId :=
  (s.sections[k].holders.reverse.find? fun h => s.countsFloor h.truck).map fun h => h.truck

/-- A truck that has lost its place through a shortage: it is sent LOWER(SHED), SHED is raised, its boost ends, and it
enters the queue of section `k` with SHED rank; a silent truck is released to IDLE instead (R47, R66, R110). -/
def State.shedInto (s : State) (k : SectionId) (t : TruckId) : State :=
  let s1 := ((s.endBoost t).sendLower t .shed).raise .shed (.truck t)
  match s.truck? t with
  | some r => if r.silent then s1.toIdle t else s1.enterQueue k t .shed
  | none => s1

/-- Shed a holder of a section: it leaves the holder list and the ramp queue, and the fall of its issued grant is recorded
as a decrease (R66, R81 step 1). -/
def State.shed (s : State) (k : SectionId) (t : TruckId) : State := (s.leaveHolders k t true).shedInto k t

/-- Remove one item of load from a section, the least harmful first: a gap grant, then a reservation, then a holder; none
when there is nothing left to remove (R63). -/
def State.removeLoad (s : State) (k : SectionId) : Option State :=
  match s.newestGap k with
  | some t => some (s.takeGap k t)
  | none =>
    match breakBelow k, (s.handoversInto k).getLast? with
    | some b, some e => some (s.refuse b e .exit)
    | _, _ => (s.newestSheddable k).map fun t => s.shed k t

/-- How many items of load a section has that the deficit check could remove. -/
def State.loadItems (s : State) (k : SectionId) : Nat :=
  s.breaks[k].approaches.length + (s.handoversInto k).length + s.sections[k].holders.length

/-- While the committed load exceeds A, remove one item and compare again (R63). -/
def deficitLoop (k : SectionId) : Nat → State → State
  | 0, s => s
  | n + 1, s =>
    if s.committed k ≤ s.sections[k].available then s
    else
      match s.removeLoad k with
      | some s' => deficitLoop k n s'
      | none => s

/-- The deficit check of a pass (R63). -/
def State.deficitCheck (s : State) (k : SectionId) : State := deficitLoop k (s.loadItems k) s

/-! ## Admission service (R46, R67) -/

/-- Take the head truck of the queue onto the holder list as the newest holder (R46, R67). -/
def State.takeHead (s : State) (k : SectionId) (t : TruckId) : State :=
  ((s.onQueue k fun q => q.tail).onSection k fun r =>
    { r with holders := r.holders ++ [{ truck := t, issued := 0, target := 0, entry := .fromQueue }] }).onTruck t
      fun r => { r with state := .holder }

/-- Take trucks from the head of the queue while a slot is free and the head truck's floor fits (R67). -/
def serviceLoop (k : SectionId) : Nat → State → State
  | 0, s => s
  | n + 1, s =>
    match s.queues[k].head? with
    | none => s
    | some e =>
      if s.slotFree k && s.committed k + s.floorOf e.truck ≤ s.sections[k].available then
        serviceLoop k n (s.takeHead k e.truck)
      else s

/-- Admission service runs in AUTO and FIXED mode, and not while the section is in OVERDRAW (R67). -/
def State.admissionService (s : State) (k : SectionId) : State :=
  if s.settings.sections[k].mode = .held || s.inOverdraw k then s
  else serviceLoop k s.queues[k].length s

/-! ## The fill (R68 to R72) -/

/-- The issued grant of a holder after the floor issue: an ordinary holder below its floor is raised to it, and a truck
with entry LATE has the floor whatever it had below (R68). -/
def State.afterFloorIssue (s : State) (h : Holder) : Amps :=
  if s.isOrdinary h.truck && (h.issued < s.floorOf h.truck || h.entry == .late) then s.floorOf h.truck else h.issued

/-- One line of the fill, in quanta: weight, cap, share so far, and the pre-allotment of a truck whose entry is HANDOVER,
which then takes no further part (R69, R70). -/
structure FillLine where
  weight : Nat
  cap : Nat
  share : Nat
  reserved : Option Nat
  deriving DecidableEq, Repr

/-- The demand the fill reads: the applied demand in AUTO and HELD mode, the class fixed grant in FIXED mode (R69). -/
def State.fillDemand (s : State) (k : SectionId) (t : TruckId) : Amps :=
  match s.truck? t with
  | some r => if s.settings.sections[k].mode = .fixed then s.settings.classes[r.cls].fixedGrant else r.applied
  | none => 0

/-- Is the truck's silent flag set? -/
def State.isSilent (s : State) (t : TruckId) : Bool :=
  match s.truck? t with
  | some r => r.silent
  | none => false

/-- The line of one holder; a holder that is not ordinary takes no part (R69, R70). -/
def State.fillLine (s : State) (k : SectionId) (h : Holder) : FillLine :=
  if s.isOrdinary h.truck then
    let floor := s.floorOf h.truck
    let cap := (s.fillDemand k h.truck - floor) / 25
    { weight := (s.classOf h.truck).weight
      cap := if s.isSilent h.truck then min cap ((s.afterFloorIssue h - floor) / 25) else cap
      share := 0
      reserved := match h.entry with
        | .handover amount => some ((amount - floor) / 25)
        | _ => none }
  else { weight := 0, cap := 0, share := 0, reserved := none }

/-- Trucks whose entry is HANDOVER are given their reservation before the others share the room, in admission order; the
result is the lines and the room left (R70). -/
def preAllot : Nat → List FillLine → List FillLine × Nat
  | e, [] => ([], e)
  | e, l :: rest =>
    match l.reserved with
    | some r =>
      let x := min (min r l.cap) e
      let (rest', e') := preAllot (e - x) rest
      ({ l with share := x } :: rest', e')
    | none =>
      let (rest', e') := preAllot e rest
      (l :: rest', e')

/-- Does the line take part in the rounds: its share is below its cap and it has no pre-allotment (R69, R70)? -/
def FillLine.takesPart (l : FillLine) : Bool := l.reserved.isNone && l.share < l.cap

/-- What a line receives in a round: the smaller of `u` times its weight and its cap less its share (R71). -/
def FillLine.roundGift (u : Nat) (l : FillLine) : Nat := if l.takesPart then min (u * l.weight) (l.cap - l.share) else 0

/-- A line with a gift added to its share. -/
def FillLine.give (l : FillLine) (n : Nat) : FillLine := { l with share := l.share + n }

/-- The sum of the weights of the lines that take part (R71). -/
def totalWeight (ls : List FillLine) : Nat := (ls.map fun l => if l.takesPart then l.weight else 0).sum

/-- The weighted rounds (R71): each shares the room by weight until nobody takes part or a share by weight would be less
than one quantum. -/
def rounds : Nat → Nat → List FillLine → List FillLine × Nat
  | 0, e, ls => (ls, e)
  | n + 1, e, ls =>
    let u := e / totalWeight ls
    if u = 0 then (ls, e)
    else rounds n (e - (ls.map fun l => l.roundGift u).sum) (ls.map fun l => l.give (l.roundGift u))

/-- One single-quantum walk down the holder list, oldest first, while room is left (R72). -/
def walk : Nat → List FillLine → List FillLine × Nat
  | e, [] => ([], e)
  | e, l :: rest =>
    if l.takesPart && 0 < e then
      let (rest', e') := walk (e - 1) rest
      (l.give 1 :: rest', e')
    else
      let (rest', e') := walk e rest
      (l :: rest', e')

/-- Walks repeat until no room is left or nobody takes part (R72). -/
def walks : Nat → Nat → List FillLine → List FillLine × Nat
  | 0, e, ls => (ls, e)
  | n + 1, e, ls =>
    if e = 0 || !(ls.any fun l => l.takesPart) then (ls, e)
    else
      let (ls', e') := walk e ls
      walks n e' ls'

/-- The fill of `e` quanta: pre-allotments, weighted rounds, single-quantum walks (R70 to R72). Each round and each walk
that is not the last hands out at least one quantum, so `e` of each are enough. -/
def fill (e : Nat) (ls : List FillLine) : List FillLine × Nat :=
  let (ls1, e1) := preAllot e ls
  let (ls2, e2) := rounds e1 e1 ls1
  walks e2 e2 ls2

/-- The room in quanta after the deficit check and admission service (R69). -/
def State.room (s : State) (k : SectionId) : Nat := (s.sections[k].available - s.committed k) / 25

/-- The gap grant of a crossing holder of a section: that of its entry at the break above. -/
def State.gapGrantOf (s : State) (k : SectionId) (t : TruckId) : Amps :=
  match entryOf s.breaks[k].approaches t with
  | some e => e.gapGrant
  | none => 0

/-- The target that HELD mode measures an AUTO result against: the present target, or the entry target of a truck that
entered in this pass, and never below the floor (R10, R73). -/
def State.previousTarget (s : State) (h : Holder) : Amps :=
  let floor := s.floorOf h.truck
  match h.entry with
  | .absent => max floor h.target
  | .handover amount => max floor amount
  | _ => floor

/-- The new target of a holder from its line of the fill (R72 to R74). -/
def State.newTarget (s : State) (k : SectionId) (h : Holder) (l : FillLine) : Amps :=
  match s.truckState h.truck with
  | .holder =>
    let result := s.floorOf h.truck + l.share * 25
    if s.settings.sections[k].mode = .held then min result (s.previousTarget h) else result
  | .approaching => s.gapGrantOf k h.truck
  | .cleared => s.gapGrantOf k h.truck
  | _ => 0

/-- The targets of a section's holders, in holder-list order (R69 to R74). -/
def State.newTargets (s : State) (k : SectionId) : List Amps :=
  let hs := s.sections[k].holders
  List.zipWith (s.newTarget k) hs (fill (s.room k) (hs.map (s.fillLine k))).1

/-! ## The hand-off to the Grant Issue Unit (R75, R81, R82) -/

/-- A holder after the floor issue and with its new target: an issued grant above the target falls to it (R81 steps 2
and 3). -/
def State.retarget (s : State) (h : Holder) (target : Amps) : Holder :=
  { h with issued := min (s.afterFloorIssue h) target, target := target }

/-- Does the new target bring the holder's issued grant down (R82)? -/
def State.falls (s : State) (h : Holder) (target : Amps) : Bool := target < s.afterFloorIssue h

/-- The ramp queue after one holder has its new target: an ordinary holder below its target keeps its entry with the new
target or is appended at the tail; any other entry of the truck is removed (R80, R81 step 3). -/
def State.rampAfter (s : State) (ramp : List RampEntry) (h : Holder) : List RampEntry :=
  if h.issued < h.target && s.isOrdinary h.truck then
    if ramp.any fun e => e.truck == h.truck then
      ramp.map fun e => if e.truck = h.truck then { e with target := h.target } else e
    else ramp ++ [{ truck := h.truck, target := h.target, stepped := false }]
  else ramp.filter fun e => e.truck ≠ h.truck

/-- The sum of the issued grants of a holder list. -/
def issuedSum (hs : List Holder) : Amps := (hs.map fun h => h.issued).sum

/-- The sum of the targets of a holder list. -/
def targetSum (hs : List Holder) : Amps := (hs.map fun h => h.target).sum

/-- The class floors of a section's SUSPENDED holders, which the committed load keeps back for their restore turns (R57). -/
def State.suspendedFloors (s : State) (k : SectionId) : Amps :=
  ((s.sections[k].holders.filter fun h => s.isSuspended h.truck).map fun h => s.floorOf h.truck).sum

/-- The floors that the spare keeps back: those of the SUSPENDED holders in AUTO and FIXED mode, where the spare is the E left
at the end of the fill, times 25 (R74, R133); none in HELD mode, where it is A less the targets and the reservations (R10).
DEDUCED (notes/assumptions/28.md). -/
def State.keptBack (s : State) (k : SectionId) : Amps :=
  if s.settings.sections[k].mode = .held then 0 else s.suspendedFloors k

/-- Apply the targets of a pass to its section: holders, ramp queue, last-decrease time and spare (R74, R81). -/
def State.handOff (s : State) (k : SectionId) : State :=
  let targets := s.newTargets k
  let hs := List.zipWith s.retarget s.sections[k].holders targets
  let fell := (List.zipWith s.falls s.sections[k].holders targets).any id
  s.onSection k fun r =>
    { r with
      holders := hs
      ramp := hs.foldl s.rampAfter r.ramp
      lastDecrease := if fell then some s.now else r.lastDecrease
      spare := r.available - targetSum hs - s.reservedInto k - s.keptBack k }

/-- Has a truck that was an ordinary holder before the event begun to cross in it (R97)? -/
def hasApproached (before s : State) (t : TruckId) : Bool := before.isOrdinary t && s.truckState t == .approaching

/-- Is the holder sent a GRANT by the pass: it came into ordinary service in this event, its APPROACH was accepted in it, it
is the truck `asked` whose ADMIT naming its own section the event answers, or its issued grant or target differs from what it
was on this list before the event (R29, R91, R97, R120)? DEDUCED (notes/assumptions/7.md). -/
def grantDue (before s : State) (k : SectionId) (asked : Option TruckId) (h : Holder) : Bool :=
  h.entry != .absent || hasApproached before s h.truck || asked == some h.truck ||
    match holderIn before.sections[k].holders h.truck with
    | some h0 => h0.issued != h.issued || h0.target != h.target
    | none => true

/-- The GRANTs of a pass: first the holders whose issued grant fell, then the others, each in holder-list order (R91).
A truck that has moved here from another section's list may be among those that fell.
DESIGN CHOICE (notes/assumptions/43.md). -/
def State.sendGrants (before s : State) (k : SectionId) (asked : Option TruckId := none) : State :=
  let due := s.sections[k].holders.filter (grantDue before s k asked)
  let fell := due.filter fun h => issuedFell before s h.truck
  let others := due.filter fun h => !issuedFell before s h.truck
  (fell ++ others).foldl (fun s' h => State.sendGrant before s' k h) s

/-- The entry fields are absent outside the event in which a truck came into ordinary service (R55). -/
def State.clearEntries (s : State) (k : SectionId) : State :=
  s.onSection k fun r => { r with holders := r.holders.map fun h => { h with entry := .absent } }

/-- SECTION_LOAD to the feeder relay at the end of a pass (R76). -/
def State.sendLoad (s : State) (k : SectionId) : State :=
  let hs := s.sections[k].holders
  s.sendRole .feeder { dest := 0xF1, urgent := false, answer := false,
                       payload := .sectionLoad k (issuedSum hs) (targetSum hs) hs.length }

/-- One pass on a section: it runs only on a LIVE one (R59, R60). `before` is the state at the start of the event the pass
belongs to, against which GRANTs are judged; `asked` is a truck that the event sends its GRANT whether or not it changed
(R29). -/
def State.pass (before s : State) (k : SectionId) (asked : Option TruckId := none) : State :=
  if s.isLive k then
    let s1 := ((s.deficitCheck k).admissionService k).handOff k
    ((State.sendGrants before s1 k asked).clearEntries k).sendLoad k
  else s

/-- Passes on several sections, one after another (R59). -/
def State.passes (before s : State) (ks : List SectionId) : State := ks.foldl (fun s' k => State.pass before s' k) s

/-! ## Releases with their passes (R21) -/

/-- Release a truck to IDLE: it leaves every place it holds, is sent the LOWER of the cause, if any, and passes run on the
sections affected (R21; the LOWER stands ahead of the passes' GRANTs by R91). -/
def State.release (before s : State) (t : TruckId) (reason : Option LowerReason) (decrease : Bool) : State :=
  let affected := s.placesOf t
  let s1 := s.vacate t decrease
  let s2 := match reason with
    | some r => s1.sendLower t r
    | none => s1
  State.passes before s2 affected

/-! ## ALLOCATION_PASS and RAMP_STEP -/

/-- ALLOCATION_PASS: one pass on the section, as an event of its own (R59). DEDUCED (notes/assumptions/6.md). -/
def execAllocationPass (k : SectionId) (s : State) : Host.Outcome State Fault Refusal :=
  whileRunning s fun s =>
    State.finish s (State.pass s (s.onSection k fun r => { r with passPending := false }) k)

/-- The step size of a ramp profile; profile 0 steps the whole difference (R84). -/
def stepSize (profile : Nat) (difference : Amps) : Amps :=
  match profile with
  | 0 => difference
  | 1 => 100
  | 2 => 100
  | 3 => 200
  | 4 => 200
  | 5 => 50
  | 6 => 50
  | _ => 400

/-- The step interval of a ramp profile in milliseconds; profile 0 has none, so nothing is added for it (R84).
DEDUCED (notes/assumptions/16.md). -/
def stepInterval : Nat → Time
  | 0 => 0
  | 1 => 50
  | 2 => 100
  | 3 => 100
  | 4 => 200
  | 5 => 50
  | 6 => 100
  | _ => 200

/-- Has the settle time of the break above the section passed since the last decrease (R85, R87)? -/
def State.settled (s : State) (k : SectionId) : Bool :=
  match s.sections[k].lastDecrease with
  | some t => elapsed t s.settings.breaks[k].settleTime s.now
  | none => true

/-- Has the spacing, for an entry that has not stepped, or the step interval, for one that has, passed since the last step
(R85)? -/
def State.spaced (s : State) (k : SectionId) (e : RampEntry) : Bool :=
  match s.sections[k].lastStep with
  | some t =>
    elapsed t (if e.stepped then stepInterval (s.classOf e.truck).rampProfile
               else s.settings.sections[k].increaseSpacing) s.now
  | none => true

/-- The head entry of a section's ramp queue, if its step is due: the section LIVE, not in OVERDRAW, no pass pending on
it, and the times of R85 past. -/
def State.rampDue (s : State) (k : SectionId) : Option RampEntry :=
  match s.sections[k].ramp with
  | [] => none
  | e :: _ =>
    if s.isLive k && !s.inOverdraw k && !s.sections[k].passPending && s.settled k && s.spaced k e then some e else none

/-- The section after its head's step: the issued grant rises by the step, the last-step time is set, and the entry has
stepped or, at the target, is gone (R86). -/
def SectionRecord.step (now : Time) (e : RampEntry) (profile : Nat) (r : SectionRecord) : SectionRecord :=
  match holderIn r.holders e.truck with
  | none => { r with ramp := r.ramp.tail }
  | some h =>
    let issued := h.issued + min (stepSize profile (e.target - h.issued)) (e.target - h.issued)
    { r with
      holders := r.holders.map fun x => if x.truck = e.truck then { x with issued := issued } else x
      ramp := if issued < e.target then { e with stepped := true } :: r.ramp.tail else r.ramp.tail
      lastStep := some now }

/-- Take the head's step and send the truck its GRANT (R86, R91). -/
def State.rampStep (s : State) (k : SectionId) (e : RampEntry) : State :=
  let s1 := s.onSection k fun r => r.step s.now e (s.classOf e.truck).rampProfile
  match holderIn s1.sections[k].holders e.truck with
  | some h => State.sendGrant s s1 k h
  | none => s1

/-- RAMP_STEP: the head takes its step if it is due; a step that is not due is not taken (R85, R86). -/
def execRampStep (k : SectionId) (s : State) : Host.Outcome State Fault Refusal :=
  whileRunning s fun s =>
    match s.rampDue k with
    | some e => s.rampStep k e
    | none => s

end Sys2Proof.Machine
end

