-- ==== Sys2Proof/Machine/Crossing.lean ====
section
/-! DEFINITION. Crossing a break (R94 to R121) and the gap inputs (R12 to R15): approaches, clearance, passage evidence,
completion, cancellation, late crossings, and the GAP_INPUT_EDGE, CLEARANCE and GAP_TIMEOUT commands. -/

namespace Sys2Proof.Machine

/-! ## APPROACH (R97 to R99) -/

/-- The fit amount of a truck's target against a section: the smaller of the target and the room above the section's
committed load (R98). -/
def State.fitAmount (s : State) (target : Amps) (above : SectionId) : Amps :=
  min target (s.sections[above].available - s.committed above)

/-- The kind of a new entry at a break, and for HANDOVER its reservation amount (R98). -/
def State.entryKind (s : State) (b : BreakId) (t : TruckId) (target : Amps) : CrossingKind :=
  match sectionAbove b with
  | none => .exit
  | some above =>
    if !s.isCrest b && s.isLive above && s.slotFree above && s.floorOf t ≤ s.fitAmount target above then
      .handover (s.fitAmount target above)
    else .exit

/-- The lower section of a break when a truck's issued grant falls to its gap grant: its ramp entry is removed, and a fall
is recorded as a decrease (R83, R97 step 3, R99). -/
def SectionRecord.cutToGap (now : Time) (t : TruckId) (gap : Amps) (issued : Amps) (r : SectionRecord) : SectionRecord :=
  { r with
    holders := r.holders.map fun h => if h.truck = t then { h with issued := gap } else h
    ramp := r.ramp.filter fun e => e.truck ≠ t
    lastDecrease := if gap < issued then some now else r.lastDecrease }

/-- An accepted APPROACH of an ordinary holder at break `b` (R97). The pass on the section below belongs to the event; the
pass on the section above, for a HANDOVER entry, is called for as an event of its own. -/
def State.approach (before s : State) (b : BreakId) (t : TruckId) : State :=
  match holderIn s.sections[b].holders t with
  | none => s
  | some h =>
    let s1 := s.endBoost t
    let kind := s1.entryKind b t h.target
    let gap := min s.settings.breaks[b].gapCurrent h.issued
    let entry : ApproachEntry :=
      { truck := t, kind := kind, state := .approaching, gapGrant := gap, approachTime := s.now }
    let s2 := (((s1.onBreak b fun r => { r with approaches := r.approaches ++ [entry] }).onTruck t
      fun r => { r with state := .approaching }).onSection b fun r => r.cutToGap s.now t gap h.issued)
    let s3 := if !entry.isHandover && !s.isCrest b then s2.raise .handoverRefused (.brk b) else s2
    let s4 := State.pass before s3 b
    match sectionAbove b with
    | some above => if entry.isHandover then s4.callPass above else s4
    | none => s4

/-! ## Clearance (R100) -/

/-- Does the entry clear: it is APPROACHING and the settle time has passed since its approach time (R100)? -/
def State.clearanceDue (s : State) (b : BreakId) (e : ApproachEntry) : Bool :=
  e.state == .approaching && elapsed e.approachTime s.settings.breaks[b].settleTime s.now

/-- An entry clears: it and its truck become CLEARED, the gap timer starts, and the truck is told to cross or to lower; no
pass runs (R100). -/
def State.clear (s : State) (b : BreakId) (e : ApproachEntry) : State :=
  let s1 := (s.onBreak b fun r =>
    { r with approaches := r.approaches.map fun x =>
        if x.truck = e.truck then { x with state := .cleared s.now } else x }).onTruck e.truck
      fun r => { r with state := .cleared }
  if e.isHandover then
    s1.sendTruck { dest := e.truck, urgent := false, answer := false, payload := .clearToCross b }
  else s1.sendLower e.truck .exit (some b)

/-- CLEARANCE: an entry whose settle time has not passed does not clear (R100). -/
def execClearance (b : BreakId) (t : TruckId) (s : State) : Host.Outcome State Fault Refusal :=
  whileRunning s fun s =>
    match entryOf s.breaks[b].approaches t with
    | some e => if s.clearanceDue b e then s.clear b e else s
    | none => s

/-! ## Completion (R105, R106) -/

/-- Replace the last-completion record of a break, the edge-absorbed flag clear (R96, R105). -/
def State.recordCompletion (s : State) (b : BreakId) (t : TruckId) (evidence : EvidenceKind) : State :=
  s.onBreak b fun r =>
    { r with lastCompletion := some { truck := t, evidence := evidence, time := s.now, edgeAbsorbed := false } }

/-- Put a truck at the end of a section's holder list as its newest holder, in state HOLDER (R56, R106, R110). -/
def State.joinHolders (s : State) (k : SectionId) (h : Holder) : State :=
  (s.onSection k fun r => { r with holders := r.holders ++ [h] }).onTruck h.truck
    fun r => { r with state := .holder, sec := some k }

/-- The EXIT completion of an entry: the truck is released to IDLE with no LOWER, and a pass runs on the section below
(R106). -/
def State.completeExit (before s : State) (b : BreakId) (t : TruckId) : State :=
  State.pass before (s.vacate t false) b

/-- The HANDOVER completion of an entry: the truck moves to the holder list of the section above with its gap grant, capped
at the reservation amount; passes run on both sections (R106). No HANDOVER entry is made at
B6, which has no section above it (R98). -/
def State.completeHandover (before s : State) (b : BreakId) (t : TruckId) (reservation : Amps) : State :=
  match sectionAbove b with
  | none => State.completeExit before s b t
  | some above =>
    let issued := match holderIn s.sections[b].holders t with
      | some h => min h.issued reservation
      | none => 0
    let s1 := ((s.dropApproach b t).leaveHolders b t false).joinHolders above
      { truck := t, issued := issued, target := reservation, entry := .handover reservation }
    State.passes before s1 [b, above]

/-- The completion of an entry by one piece of evidence; of an APPROACHING entry it is an early crossing (R105). -/
def State.complete (before s : State) (b : BreakId) (e : ApproachEntry) (evidence : EvidenceKind) : State :=
  let s1 := if e.isCleared then s else s.raise .earlyCrossing (.truck e.truck)
  let s2 := s1.recordCompletion b e.truck evidence
  match e.kind with
  | .handover reservation => State.completeHandover before s2 b e.truck reservation
  | .exit => State.completeExit before s2 b e.truck

/-! ## The late check and late crossings (R109, R110) -/

/-- The late check: the truck of the last-cancellation record, if its time lies less than the late window back and the
truck is an ordinary holder of the section below the break (R109). -/
def State.lateTruck (s : State) (b : BreakId) : Option TruckId :=
  match s.breaks[b].lastCancellation with
  | some c =>
    if s.now < c.time + s.settings.breaks[b].lateWindow && s.isOrdinary c.truck
        && (holderIn s.sections[b].holders c.truck).isSome then some c.truck
    else none
  | none => none

/-- A late crossing at the crest, or into a section out of service: the truck is released to IDLE with its LOWER, and a pass
runs on the section below (R110). -/
def State.lateRelease (before s : State) (b : BreakId) (t : TruckId) (reason : LowerReason)
    (brk : Option BreakId) : State :=
  State.pass before ((s.vacate t false).sendLower t reason brk) b

/-- A late crossing by a truck at a break (R110). DEDUCED (notes/assumptions/20.md). -/
def State.lateCrossing (before s : State) (b : BreakId) (t : TruckId) (evidence : EvidenceKind) : State :=
  let s1 := (s.raise .lateCrossing (.truck t)).recordCompletion b t evidence
  match sectionAbove b with
  | none => State.lateRelease before s1 b t .exit (some b)
  | some above =>
    if s.isCrest b then State.lateRelease before s1 b t .exit (some b)
    else if s.inService above then
      let fits := s.isLive above && s.slotFree above && s.committed above + s.floorOf t ≤ s.sections[above].available
      let s2 := s1.leaveHolders b t false
      if fits then
        State.passes before (s2.joinHolders above { truck := t, issued := 0, target := 0, entry := .late }) [b, above]
      else State.passes before (s2.shedInto above t) [b, above]
    else State.lateRelease before s1 b t .noSection none

/-! ## Passage evidence (R102 to R104) -/

/-- Is a sensor passage absorbed by the last completion of its break (R102 case 1)? -/
def State.absorbsEdge (s : State) (b : BreakId) : Bool :=
  match s.breaks[b].lastCompletion with
  | some c => c.evidence == .telegram && s.now < c.time + s.settings.breaks[b].evidenceWindow && !c.edgeAbsorbed
  | none => false

/-- A sensor passage that the Crossing Unit acts on: absorbed, completing the oldest entry, a late crossing, or unclaimed
(R102). -/
def State.sensorPassage (before s : State) (b : BreakId) : State :=
  if s.absorbsEdge b then
    s.onBreak b fun r => { r with lastCompletion := r.lastCompletion.map fun c => { c with edgeAbsorbed := true } }
  else
    match s.breaks[b].approaches with
    | e :: _ => State.complete before s b e .sensor
    | [] =>
      match s.lateTruck b with
      | some t => State.lateCrossing before s b t .sensor
      | none => s.raise .unclaimedPassage (.brk b)

/-- Is a PASSED of a truck absorbed by the last completion of the break (R103 case 3)? -/
def State.absorbsPassed (s : State) (b : BreakId) (t : TruckId) : Bool :=
  match s.breaks[b].lastCompletion with
  | some c => c.evidence == .sensor && c.truck == t && s.now < c.time + s.settings.breaks[b].evidenceWindow
  | none => false

/-- A PASSED telegram at a break in use whose evidence mode acts on it: T's entry, absorbed, a late crossing by T, or
unclaimed (R103 cases 2 to 5). -/
def State.passedAt (before s : State) (b : BreakId) (t : TruckId) : State :=
  match entryOf s.breaks[b].approaches t with
  | some e => State.complete before s b e .telegram
  | none =>
    if s.absorbsPassed b t then s
    else if s.lateTruck b = some t then State.lateCrossing before s b t .telegram
    else State.placeReply before (s.raise .unclaimedPassage (.brk b)) t

/-- A PASSED telegram (R103): at a break that is not in use or is in SENSOR mode it is answered with a place reply. -/
def State.passedTelegram (before s : State) (k : Nat) (t : TruckId) : State :=
  match breakOfNumber k with
  | none => State.placeReply before s t
  | some b =>
    if s.breakInUse b && s.settings.breaks[b].evidenceMode != .sensor then State.passedAt before s b t
    else State.placeReply before s t

/-! ## Gap inputs (R13 to R15) -/

/-- Is the gap input of a break read: in use and enabled (R13)? -/
def State.gapRead (s : State) (b : BreakId) : Bool := s.breakInUse b && s.settings.breaks[b].gapEnabled

/-- Is an edge of the selected kind (R13)? -/
def edgeSelected : EdgeSelect → Bool → Bool
  | .rising, rises => rises
  | .falling, rises => !rises
  | .both, _ => true

/-- Does a selected edge form a sensor passage: no last accepted edge, or the dead time gone by since it (R14)? -/
def State.passageForms (s : State) (b : BreakId) : Bool :=
  match s.breaks[b].lastEdge with
  | some t => elapsed t s.settings.breaks[b].deadTime s.now
  | none => true

/-- A selected edge: it may form a sensor passage, which sets the last accepted edge time and goes to the Crossing Unit
unless the evidence mode is TELEGRAM (R14, R15). -/
def State.selectedEdge (before s : State) (b : BreakId) : State :=
  if s.passageForms b then
    let s1 := s.onBreak b fun r => { r with lastEdge := some s.now }
    if s.settings.breaks[b].evidenceMode = .telegram then s1 else State.sensorPassage before s1 b
  else s

/-- The level of a gap input as the part reads it: the first level read becomes the reference level; a change from the
reference level is an edge, and the new level becomes the reference level whether or not the edge is accepted (R13).
DEDUCED (notes/assumptions/22.md). -/
def State.readGap (before s : State) (b : BreakId) (high : Bool) : State :=
  if s.gapRead b then
    let s1 := s.onBreak b fun r => { r with reference := some high }
    match s.breaks[b].reference with
    | none => s1
    | some level =>
      if level = high then s1
      else if edgeSelected s.settings.breaks[b].edgeSelect high then State.selectedEdge before s1 b
      else s1
  else s

/-- A new level on the pin of a gap input. -/
def State.setGapPin (s : State) (b : BreakId) (high : Bool) : State :=
  { s with pins := { s.pins with gaps := updateAt s.pins.gaps b fun _ => high } }

/-- GAP_INPUT_EDGE: the pin takes the level whether or not the part runs; a running part reads it (R13). A number that is
no gap input names no pin, and nothing changes. DESIGN CHOICE (notes/assumptions/19.md). -/
def execGapInputEdge (gap : Nat) (high : Bool) (s : State) : Host.Outcome State Fault Refusal :=
  match breakOfNumber gap with
  | none => .next s
  | some b => whileRunning (s.setGapPin b high) fun s => State.finish s (State.readGap s s b high)

/-! ## Gap timeout (R101, R108) -/

/-- Has the gap timer of an entry expired: it is CLEARED and the gap timeout has passed since its time cleared (R101)? -/
def State.gapTimeoutDue (s : State) (b : BreakId) (e : ApproachEntry) : Bool :=
  match e.state with
  | .cleared t => elapsed t s.settings.breaks[b].gapTimeout s.now
  | .approaching => false

/-- A crossing cancelled at a gap timeout: the truck returns to ordinary service in the section below, with entry RETURNED
(R108). -/
def State.cancelCrossing (before s : State) (b : BreakId) (e : ApproachEntry) : State :=
  let s1 := ((s.dropApproach b e.truck).onTruck e.truck fun r => { r with state := .holder }).onSection b fun r =>
    { r with holders := r.holders.map fun h => if h.truck = e.truck then { h with entry := .returned } else h }
  let s2 := (s1.raise .handoverTimeout (.truck e.truck)).onBreak b fun r =>
    { r with lastCancellation := some { truck := e.truck, time := s.now } }
  let s3 := State.pass before s2 b
  match sectionAbove b with
  | some above => if e.isHandover then State.pass before s3 above else s3
  | none => s3

/-- GAP_TIMEOUT: an entry whose gap timer has not expired is not cancelled (R101, R108). -/
def execGapTimeout (b : BreakId) (t : TruckId) (s : State) : Host.Outcome State Fault Refusal :=
  whileRunning s fun s =>
    match entryOf s.breaks[b].approaches t with
    | some e => if s.gapTimeoutDue b e then State.finish s (State.cancelCrossing s s b e) else s
    | none => s

end Sys2Proof.Machine
end

