-- ==== Sys2Proof/Machine/Roster.lean ====
section
/-! DEFINITION. What the Truck Roster and the Admission Queues do with a truck telegram the Radio Pairing Unit acts on (R18,
R26 to R35, R42 to R52), and the truck timers: DEMAND_INTERVAL_END, BOOST_EXPIRY, COOLDOWN_END, SILENCE_LIMIT_EXPIRY and
ABANDONMENT. -/

namespace Sys2Proof.Machine

/-! ## Demands (R30 to R32) -/

/-- May the truck start a boost now: an ordinary holder of a LIVE section in AUTO mode whose class boost limit is above 0
(R32; that its boost state is NONE is judged with the flag)? -/
def State.mayBoost (s : State) (r : Truck) : Bool :=
  match r.state, r.sec with
  | .holder, some k =>
    s.isLive k && s.settings.sections[k].mode == .auto && 0 < s.settings.classes[r.cls].boostLimit
  | _, _ => false

/-- The boost state once a demand is applied: where the truck may boost, a flagged demand starts an episode or keeps a running
one; an unflagged demand, and a flagged one where the truck may not boost, ends an episode; a cooldown takes no notice (R8,
R32, R33). -/
def boostAfterDemand (c : ClassRecord) (now : Time) (may flag : Bool) : Boost → Boost
  | .active ends => if flag && may then .active ends else boostAfterEnd c now
  | .none => if flag && may then .active (now + c.boostLimit * 1000) else .none
  | .cooldown ends => .cooldown ends

/-- The record of a truck once a demand is applied (R30, R31). -/
def Truck.apply (c : ClassRecord) (now : Time) (may : Bool) (amps : Amps) (flag : Bool) (r : Truck) : Truck :=
  let boost := boostAfterDemand c now may flag r.boost
  let requested := quantumUp amps
  { r with
    requested := requested
    applied := appliedDemand c boost requested
    waiting := none
    lastApplication := some now
    boost := boost }

/-- A pass on the truck's section, if it has one (R58); `asked` as for a pass. -/
def State.passAtTruck (before s : State) (t : TruckId) (asked : Option TruckId := none) : State :=
  match s.truck? t with
  | some r =>
    match r.sec with
    | some k => State.pass before s k asked
    | none => s
  | none => s

/-- Set the demand of a truck in its record (R30). -/
def State.recordDemand (s : State) (t : TruckId) (amps : Amps) (flag : Bool) : State :=
  match s.truck? t with
  | some r => s.onTruck t fun x => x.apply s.settings.classes[r.cls] s.now (s.mayBoost r) amps flag
  | none => s

/-- Apply a demand and run the pass of the application (R30). -/
def State.applyDemand (before s : State) (t : TruckId) (amps : Amps) (flag : Bool) (asked : Option TruckId := none) :
    State :=
  State.passAtTruck before (s.recordDemand t amps flag) t asked

/-- Has the demand interval passed since the truck's last application (R31)? -/
def State.intervalOver (s : State) (r : Truck) : Bool :=
  match r.lastApplication with
  | some t => elapsed t s.settings.demandInterval s.now
  | none => true

/-- A DEMAND, or an ADMIT that acts as one: applied at once, or made the pending demand until the interval ends (R31). -/
def State.takeDemand (before s : State) (r : Truck) (amps : Amps) (flag : Bool) (asked : Option TruckId := none) :
    State :=
  if s.intervalOver r then State.applyDemand before s r.id amps flag asked
  else s.onTruck r.id fun x => { x with waiting := some { amps := quantumUp amps, boost := flag } }

/-- Apply the pending demand of a truck that has just been heard again, if the interval has run by then (R31, R35). -/
def State.applyWaiting (before s : State) (r : Truck) : State :=
  match r.waiting with
  | some p => if s.intervalOver r then State.applyDemand before s r.id p.amps p.boost else s
  | none => s

/-! ## ADMIT (R29, R42, R43, R52) -/

/-- The rank of a fresh ADMIT: RAISED if the raised flag is set while the resync window is open (R42, R52). -/
def State.freshRank (s : State) (raised : Bool) : Rank :=
  if raised && s.resyncOpened.isSome then .raised else .normal

/-- A fresh ADMIT of an IDLE truck (R42, R43). -/
def State.freshAdmit (before s : State) (t : TruckId) (sectionNo : Nat) (amps : Amps) (raised : Bool) : State :=
  match sectionOfNumber sectionNo with
  | none => s.sendLower t .noSection
  | some k =>
    if s.inService k then
      let s1 := s.enterQueue k t (s.freshRank raised)
      if s1.truckState t = .queued then State.applyDemand before s1 t amps false else s1
    else s.sendLower t .noSection

/-- Does a demand of the truck that arrives now run a pass: it is applied at once, and its section is LIVE (R30, R31)? -/
def State.demandRunsPass (s : State) (r : Truck) : Bool := s.intervalOver r && r.sec.any s.isLive

/-- The telegram that answers an ADMIT naming the truck's own section: QUEUED with the present position, or GRANT. Where the
demand has run its pass, `passed`, the GRANT stands among those of the pass, in holder-list order; a truck admitted or shed
by the pass has been told by the telegrams of that (R29, R41, R91). DEDUCED (notes/assumptions/8.md). -/
def State.tellPlace (before s : State) (t : TruckId) (was : TruckState) (passed : Bool) : State :=
  match s.truck? t with
  | some r =>
    match r.state, r.sec with
    | .queued, some k => if was = .queued then s.sendQueued k t else s
    | .holder, some k =>
      match holderIn s.sections[k].holders t with
      | some h => if passed then s else State.sendGrant before s k h
      | none => s
    | _, _ => s
  | none => s

/-- An ADMIT naming the truck's own section acts as a DEMAND without the boost flag, and tells the truck its place (R29). -/
def State.repeatAdmit (before s : State) (r : Truck) (amps : Amps) : State :=
  State.tellPlace before (State.takeDemand before s r amps false (some r.id)) r.id r.state (s.demandRunsPass r)

/-- An ADMIT from an enrolled truck (R26, R29). The release before a fresh ADMIT counts as an event of its own, against
which no GRANT of the fresh ADMIT is judged. DESIGN CHOICE (notes/assumptions/7.md). Positions are reported once, after the
fresh ADMIT too. DESIGN CHOICE (notes/assumptions/41.md). -/
def State.admitTelegram (before s : State) (r : Truck) (sectionNo : Nat) (amps : Amps) (raised : Bool) : State :=
  match r.state with
  | .idle => State.freshAdmit before s r.id sectionNo amps raised
  | .queued | .holder =>
    if r.sec.map (fun k => k.val) = some sectionNo then State.repeatAdmit before s r amps
    else
      let s1 := State.release before s r.id none true
      State.freshAdmit s1 s1 r.id sectionNo amps raised
  | _ => State.placeReply before s r.id

/-! ## The other truck telegrams (R26, R28) -/

/-- A DEMAND from an enrolled truck (R26). -/
def State.demandTelegram (before s : State) (r : Truck) (amps : Amps) (flag : Bool) : State :=
  match r.state with
  | .idle => State.placeReply before s r.id
  | _ => State.takeDemand before s r amps flag

/-- An APPROACH from an enrolled truck: only the APPROACH of a HOLDER that names the break above its own section goes to the
Crossing Unit (R26). -/
def State.approachTelegram (before s : State) (r : Truck) (k : Nat) : State :=
  match r.state, r.sec with
  | .holder, some sec =>
    if k = breakNumber sec then State.approach before s sec r.id else State.placeReply before s r.id
  | _, _ => State.placeReply before s r.id

/-- A LOWERED from an enrolled truck: a release with no LOWER and no recorded decrease (R28, R83). One from an IDLE truck is
not answered (R26, R28), an abandoned truck's too, whose LOWERED R36 could be read to answer with LOWER(RELEASED).
DESIGN CHOICE (notes/assumptions/33.md). -/
def State.loweredTelegram (before s : State) (r : Truck) : State :=
  match r.state with
  | .idle => s
  | _ => State.release before s r.id none false

/-! ## The Truck Roster (R18, R35) -/

/-- Does the telegram carry a newer demand that replaces the pending one of a truck in this state (R31)? An ADMIT of a QUEUED
truck or a holder does whatever section it names, though for another section its release discards the pending demand and the
ADMIT may be refused. DESIGN CHOICE (notes/assumptions/40.md). -/
def carriesDemand (state : TruckState) : Inbound → Bool
  | .truckDemand .. => true
  | .truckAdmit .. => state == .queued || state == .holder
  | _ => false

/-- Deal with a telegram by type and state (R26). -/
def State.byType (before s : State) (r : Truck) : Inbound → State
  | .truckAdmit sectionNo demand flags =>
    State.admitTelegram before s r sectionNo.toNat demand.toNat (flags.getLsbD 0)
  | .truckDemand demand flags => State.demandTelegram before s r demand.toNat (flags.getLsbD 0)
  | .truckApproach k => State.approachTelegram before s r k.toNat
  | .truckPassed k => State.passedTelegram before s k.toNat r.id
  | .truckLowered => State.loweredTelegram before s r
  | _ => s

/-- The telegram of a truck that has been heard, dealt with on its record as it stands (R26). -/
def State.dealt (before s : State) (t : TruckId) (telegram : Inbound) : State :=
  match s.truck? t with
  | some r => State.byType before s r telegram
  | none => s

/-- A silent truck is heard again: for an ordinary holder a pass runs, and then a pending demand is applied unless the
telegram carries a newer one (R31, R35). The pass, and the application with its pass, each count as an event of its own, apart
from each other and from the telegram: the GRANTs of each are judged against the state it began in. DESIGN CHOICE
(notes/assumptions/7.md). -/
def State.heardAgain (before s : State) (t : TruckId) (telegram : Inbound) : State :=
  let s1 := if s.isOrdinary t then State.passAtTruck before s t else s
  match s1.truck? t with
  | some r => if carriesDemand r.state telegram then s1 else State.applyWaiting s1 s1 r
  | none => s1

/-- A truck telegram that the Radio Pairing Unit acts on is handed to the Truck Roster (R18, R44). The pass of a silent truck
heard again, and the application of its pending demand, count as events of their own, ahead of the telegram's. DESIGN CHOICE
(notes/assumptions/7.md). Positions are reported once, after the telegram has been dealt with. DESIGN CHOICE
(notes/assumptions/41.md). -/
def State.rosterTelegram (s : State) (t : TruckId) (telegram : Inbound) : State :=
  match s.truck? t with
  | none =>
    let s1 := s.raise .notEnrolled (.truck t)
    match telegram with
    | .truckAdmit .. => s1.sendLower t .notEnrolled
    | _ => s1
  | some r =>
    let s1 := s.onTruck t fun x => { x with lastHeard := some s.now, silent := false }
    if r.silent then
      let s2 := State.heardAgain s s1 t telegram
      State.dealt s2 s2 t telegram
    else State.dealt s s1 t telegram

/-! ## Truck timers -/

/-- Has the demand interval of a pending demand ended, the truck not being silent (R31)? -/
def State.demandDue (s : State) (r : Truck) : Bool := r.waiting.isSome && !r.silent && s.intervalOver r

/-- DEMAND_INTERVAL_END: the pending demand is applied; before its time, or while the truck is silent, nothing is (R31). -/
def execDemandIntervalEnd (t : TruckId) (s : State) : Host.Outcome State Fault Refusal :=
  whileRunning s fun s =>
    match s.truck? t with
    | some r => if s.demandDue r then State.finish s (State.applyWaiting s s r) else s
    | none => s

/-- Has the remaining time of a truck's boost run out (R33)? -/
def State.boostOver (s : State) (r : Truck) : Bool :=
  match r.boost with
  | .active ends => ends ≤ s.now
  | _ => false

/-- Has the remaining time of a truck's cooldown run out (R33)? -/
def State.cooldownOver (s : State) (r : Truck) : Bool :=
  match r.boost with
  | .cooldown ends => ends ≤ s.now
  | _ => false

/-- Does the truck stand on a holder list (R17)? -/
def TruckState.onHolderList : TruckState → Bool
  | .holder => true
  | .approaching => true
  | .cleared => true
  | .suspended => true
  | _ => false

/-- BOOST_EXPIRY: BOOST_EXPIRED is raised, the boost ends, and a pass runs on the truck's section (R33). -/
def execBoostExpiry (t : TruckId) (s : State) : Host.Outcome State Fault Refusal :=
  whileRunning s fun s =>
    match s.truck? t with
    | some r =>
      if s.boostOver r then
        let s1 := (s.endBoost t).raise .boostExpired (.truck t)
        State.finish s (if r.state.onHolderList then State.passAtTruck s s1 t else s1)
      else s
    | none => s

/-- COOLDOWN_END: the boost state becomes NONE; the applied demand is unchanged and no pass runs (R33). -/
def execCooldownEnd (t : TruckId) (s : State) : Host.Outcome State Fault Refusal :=
  whileRunning s fun s =>
    match s.truck? t with
    | some r => if s.cooldownOver r then s.onTruck t fun x => { x with boost := .none } else s
    | none => s

/-- Has the silence limit passed since the truck was last heard, its silence timer running (R34)? -/
def State.silenceDue (s : State) (r : Truck) : Bool :=
  r.state != .idle && !r.silent &&
    match r.lastHeard with
    | some t => elapsed t s.settings.silenceLimit s.now
    | none => false

/-- Has the abandon limit passed since a silent truck was last heard (R36)? -/
def State.abandonDue (s : State) (r : Truck) : Bool :=
  r.silent &&
    match r.lastHeard with
    | some t => elapsed t s.settings.abandonLimit s.now
    | none => false

/-- An abandoned truck is released with LOWER(RELEASED), and TRUCK_ABANDONED is raised (R36). -/
def State.abandon (before s : State) (t : TruckId) : State :=
  (State.release before s t (some .released) true).raise .truckAbandoned (.truck t)

/-- The silence limit of a truck expires: a QUEUED truck is released; any other is marked silent with TRUCK_SILENT, and then
abandoned at once if the abandon limit is no longer, or else a pass runs on its section (R34, R36). The abandonment belongs to
the same event, whose one pass on the section is that of the release (R59). DEDUCED (notes/assumptions/35.md). -/
def State.fallSilent (before s : State) (r : Truck) : State :=
  match r.state with
  | .queued => State.release before s r.id (some .released) true
  | _ =>
    let s1 := (s.onTruck r.id fun x => { x with silent := true }).raise .truckSilent (.truck r.id)
    if s1.abandonDue { r with silent := true } then State.abandon before s1 r.id else State.passAtTruck before s1 r.id

/-- SILENCE_LIMIT_EXPIRY (R34). -/
def execSilenceLimitExpiry (t : TruckId) (s : State) : Host.Outcome State Fault Refusal :=
  whileRunning s fun s =>
    match s.truck? t with
    | some r => if s.silenceDue r then State.finish s (State.fallSilent s s r) else s
    | none => s

/-- ABANDONMENT (R36). -/
def execAbandonment (t : TruckId) (s : State) : Host.Outcome State Fault Refusal :=
  whileRunning s fun s =>
    match s.truck? t with
    | some r => if s.abandonDue r then State.finish s (State.abandon s s t) else s
    | none => s

end Sys2Proof.Machine
end

