-- ==== Sys2Proof/Machine/Lanes.lean ====
section
/-! DEFINITION. The Lane Ports and the Radio Pairing Unit (R142 to R157): pairing, lane states, receiving and sending, and
the FRAME, FRAME_TIMEOUT, TRANSMIT_START, TRANSMIT_END, LINK_BEACON, truck telegram, LANE_SILENCE_EXPIRY and
PAIRING_WINDOW_END commands. -/

namespace Sys2Proof.Machine

/-! ## Pairing (R152, R153) -/

/-- One more unpaired telegram on a lane (R151). -/
def State.countUnpaired (s : State) (l : LaneId) : State := s.onLane l fun p => { p with counts := p.counts.bumpUnpaired }

/-- Change the pairing slot of a truck. -/
def State.setSlot (s : State) (t : TruckId) (c : Option RadioCopy) : State := s.onTruck t fun r => { r with slot := c }

/-- The copy that a telegram arriving now on a lane makes (R152). -/
def State.copyOf (s : State) (l : LaneId) (telegram : Inbound) : RadioCopy :=
  { telegram := telegram, lane := l, arrival := s.now, window := s.settings.pairingWindow }

/-- EITHER mode: an identical copy from the other radio lane within its window is absorbed; any other telegram is acted on
and kept in the slot; an ID with no slot is acted on copy by copy (R152). -/
def State.pairEither (s : State) (l : LaneId) (t : TruckId) (telegram : Inbound) : State :=
  match s.truck? t with
  | none => s.rosterTelegram t telegram
  | some r =>
    match r.slot with
    | some c =>
      if c.telegram = telegram ∧ c.lane ≠ l ∧ s.now < c.arrival + c.window then s.setSlot t none
      else (s.setSlot t (some (s.copyOf l telegram))).rosterTelegram t telegram
    | none => (s.setSlot t (some (s.copyOf l telegram))).rosterTelegram t telegram

/-- BOTH mode with pairing not degraded (R153). A held copy whose window has ended is gone; one whose window ends at this
very moment is still held until its PAIRING_WINDOW_END is taken (R156). DEDUCED (notes/assumptions/10.md). -/
def State.pairBoth (s : State) (l : LaneId) (t : TruckId) (telegram : Inbound) : State :=
  match s.truck? t with
  | none => s.countUnpaired l
  | some r =>
    match r.slot with
    | none => s.setSlot t (some (s.copyOf l telegram))
    | some c =>
      if c.arrival + c.window < s.now then
        (s.countUnpaired c.lane).setSlot t (some (s.copyOf l telegram))
      else if c.telegram = telegram then
        if c.lane = l then s.countUnpaired l
        else (s.setSlot t none).rosterTelegram t telegram
      else (s.countUnpaired c.lane).setSlot t (some (s.copyOf l telegram))

/-- A truck telegram from a radio lane reaches the Radio Pairing Unit (R152 to R154). -/
def State.pairTelegram (s : State) (l : LaneId) (t : TruckId) (telegram : Inbound) : State :=
  match s.settings.pairingMode with
  | .either => s.pairEither l t telegram
  | .both => if s.degraded then s.rosterTelegram t telegram else s.pairBoth l t telegram
  | .aOnly => if s.settings.lanes[l].role = .radioA then s.rosterTelegram t telegram else s
  | .bOnly => if s.settings.lanes[l].role = .radioB then s.rosterTelegram t telegram else s

/-! ## Degraded pairing (R154) -/

/-- Is the lane that holds a role LIVE? -/
def State.roleLive (s : State) (r : Role) : Bool :=
  match s.laneOfRole r with
  | some l => s.lanes[l].state == .live
  | none => false

/-- The condition of degraded pairing: BOTH mode, one radio lane LIVE and the other not (R154).
DEDUCED (notes/assumptions/11.md). -/
def State.degradedCondition (s : State) : Bool :=
  s.settings.pairingMode == .both && (s.roleLive .radioA ^^ s.roleLive .radioB)

/-- The copies the slots hold, in roster order. -/
def State.heldCopies (s : State) : List (TruckId × RadioCopy) :=
  s.roster.filterMap fun r => r.slot.map fun c => (r.id, c)

/-- Every slot empty. -/
def State.emptySlots (s : State) : State := { s with roster := s.roster.map fun r => { r with slot := none } }

/-- The copies held when pairing becomes degraded: one from a LIVE lane is acted on, which hands it to the Truck Roster; one
from the other lane counts unpaired (R152, R154). -/
def State.settleCopy (s : State) (c : TruckId × RadioCopy) : State :=
  if s.lanes[c.2.lane].state = .live then { s with handed := s.handed ++ [(c.1, c.2.telegram)] }
  else s.countUnpaired c.2.lane

/-- The Truck Roster deals with a copy handed to it, as one event there with its own position reports and EVENTs (R41, R152,
R167). -/
def State.dealHanded (s : State) (c : TruckId × Inbound) : State := State.finish s (s.rosterTelegram c.1 c.2)

/-- The end of an event in which pairing may have become degraded: its own position reports and EVENTs, and then each copy that
it has handed to the Truck Roster, one after another, in roster order. DESIGN CHOICE (notes/assumptions/27.md). -/
def State.finishAll (before s : State) : State :=
  (s.handed.drop before.handed.length).foldl State.dealHanded (State.finish before { s with handed := before.handed })

/-- Set the degraded flag. -/
def State.setDegraded (s : State) (d : Bool) : State := { s with degraded := d }

/-- Set or clear the degraded flag as its condition now stands; a flag newly set settles the slots, and raises
PAIRING_DEGRADED if a radio lane going from LIVE to QUIET was the cause (R154).
DESIGN CHOICE (notes/assumptions/27.md). -/
def State.updateDegraded (s : State) (cause : Option LaneId) : State :=
  if s.degradedCondition then
    if s.degraded then s
    else
      let s1 := s.setDegraded true
      let s2 := match cause with
        | some l => s1.raise .pairingDegraded (.lane l)
        | none => s1
      s2.heldCopies.foldl State.settleCopy s2.emptySlots
  else s.setDegraded false

/-- Every slot is emptied at a change of the pairing mode, and each copy held for BOTH mode counts unpaired on its lane
(R156). -/
def State.forgetCopies (s : State) : State :=
  if s.settings.pairingMode = .both then
    (s.heldCopies.foldl (fun s c => s.countUnpaired c.2.lane) s).emptySlots
  else s.emptySlots

/-! ## Line rate (R143) -/

/-- Carry out, oldest first, the line-rate changes that no transmission holds back any more: the new rate is in force and a
frame being received is discarded and counts as nothing (R143). -/
def settleChanges : List RateChange → LanePort → LanePort
  | [], p => { p with rateChanges := [] }
  | c :: rest, p =>
    if c.transmissionsLeft = 0 then settleChanges rest { p with rate := c.rate, partialFrame := [] }
    else { p with rateChanges := c :: rest }

/-- Carry out the line-rate changes of a lane that are due (R143). -/
def LanePort.settleRate (p : LanePort) : LanePort := settleChanges p.rateChanges p

/-! ## Lane states (R148) -/

/-- Is the role a radio role? -/
def Role.isRadio : Role → Bool
  | .radioA => true
  | .radioB => true
  | _ => false

/-- Does a lane of this role carry telegrams to trucks under the present pairing mode (R51, R155)? -/
def State.carriesTrucks (s : State) (r : Role) : Bool := (truckRoles s.settings.pairingMode).contains r

/-- The time left of the resync window that opened at a time (R51). -/
def State.resyncLeft (s : State) (opened : Time) : Time := opened + s.settings.resyncWindow - s.now

/-- The resync repeat of a radio lane that has become LIVE within the window (R51). -/
def State.resyncRepeat (s : State) (l : LaneId) : State :=
  match s.resyncOpened with
  | some opened =>
    if s.carriesTrucks s.settings.lanes[l].role && !s.lanes[l].resyncRepeated then
      (s.onLane l fun p => { p with resyncRepeated := true }).sendOn l (OutTelegram.resync (s.resyncLeft opened))
    else s
  | none => s

/-- A valid telegram restarts the lane's silence timer and makes the lane LIVE (R146, R148). -/
def State.laneHeard (s : State) (l : LaneId) : State :=
  let s1 := s.onLane l fun p => { p with silenceStart := s.now, state := .live }
  if s.lanes[l].state = .live then s1
  else if s.settings.lanes[l].role.isRadio then (s1.resyncRepeat l).updateDegraded none
  else s1

/-- Set the feeder hold timer: its start, or idle (R122). -/
def State.setHold (s : State) (start : Option Time) : State := { s with holdTimer := start }

/-- The derating of a held feeder record: its effective capacity times the fallback percentage, rounded down to the quantum
(R129). -/
def deratedCapacity (amps percentage : Nat) : Amps := quantumDown (amps * percentage / 100)

/-- Derate one feeder record, if it is still HELD; a pass is called for on a LIVE section whose effective capacity changed
(R129). -/
def State.derate (s : State) (k : SectionId) : State :=
  if s.feeders[k].age = .held then
    let old := s.feeders[k].effective
    let s1 := ((s.onFeeder k fun f => { f with age := .derated }).setEffective k
      (deratedCapacity old s.settings.fallbackPercentage)).raise .feederDerated (.sec k)
    if s1.feeders[k].effective = old then s1 else s1.callPass k
  else s

/-- Derate every HELD record, in section order from S0; the timer is idle afterwards (R129). -/
def State.derateAll (s : State) : State := (allSections.foldl State.derate s).setHold none

/-- Every FRESH record becomes HELD (R128). -/
def State.holdReports (s : State) : State :=
  { s with feeders := s.feeders.map fun (f : FeederRecord) =>
      if f.age = ReportAge.fresh then { f with age := .held } else f }

/-- The FEEDER lane has turned QUIET: FRESH records become HELD and the feeder hold timer starts anew, or with a hold time
of 0 the derating is carried out at once (R128, R129). -/
def State.startHold (s : State) : State :=
  let s1 := s.holdReports
  if s.settings.feederHoldTime = 0 then s1.derateAll else s1.setHold (some s.now)

/-- Empty a lane's transmit queue, without counting; a line-rate change that waited for queued telegrams waits for the one in
transmission at most (R143, R155). DESIGN CHOICE (notes/assumptions/13.md). -/
def LanePort.dropTx (p : LanePort) : LanePort :=
  ({ p with
      tx := []
      rateChanges := p.rateChanges.map fun (c : RateChange) =>
        { c with transmissionsLeft := min c.transmissionsLeft p.sending.toList.length } }).settleRate

/-- A lane turns QUIET: LANE_QUIET is raised and the blocks that watch the lane's role are told (R128, R148, R154, R155). -/
def State.laneQuiet (s : State) (l : LaneId) : State :=
  let wasLive := s.lanes[l].state = .live
  let s1 := (s.onLane l fun p => { p with state := .quiet }).raise .laneQuiet (.lane l)
  match s.settings.lanes[l].role with
  | .feeder => s1.startHold
  | .radioA | .radioB =>
    (s1.onLane l LanePort.dropTx).updateDegraded (if wasLive then some l else none)
  | _ => s1

/-- Has the lane's silence timer expired; it runs on a lane in use that is not QUIET (R142, R148)? -/
def State.laneSilenceDue (s : State) (l : LaneId) : Bool :=
  s.settings.lanes[l].role != .unused && s.lanes[l].state != .quiet
    && elapsed s.lanes[l].silenceStart s.settings.lanes[l].silenceLimit s.now

/-- LANE_SILENCE_EXPIRY: the lane turns QUIET once its silence limit has passed (R148). -/
def execLaneSilenceExpiry (l : LaneId) (s : State) : Host.Outcome State Fault Refusal :=
  whileRunning s fun s => if s.laneSilenceDue l then State.finishAll s (s.laneQuiet l) else s

/-! ## Sending (R149) -/

/-- May the lane begin a transmission: its line is free and a telegram waits; an UNUSED lane transmits nothing (R142,
R149)? -/
def State.transmitReady (s : State) (l : LaneId) : Bool :=
  s.settings.lanes[l].role != .unused && s.lanes[l].sending.isNone && !s.lanes[l].tx.isEmpty

/-- TRANSMIT_START: the head telegram leaves the transmit queue and its transmission begins (R149). -/
def execTransmitStart (l : LaneId) (s : State) : Host.Outcome State Fault Refusal :=
  whileRunning s fun s =>
    if s.transmitReady l then
      s.onLane l fun p =>
        { p with
          tx := p.tx.tail
          sending := p.tx.head?.map fun t => { octets := t.frame, started := s.now } }
    else s

/-- TRANSMIT_END: the line is free again, and the line-rate changes that waited for this telegram alone take effect (R143). -/
def execTransmitEnd (l : LaneId) (s : State) : Host.Outcome State Fault Refusal :=
  whileRunning s fun s =>
    s.onLane l fun p =>
      if p.sending.isSome then
        ({ p with
            sending := none
            rateChanges := p.rateChanges.map fun (c : RateChange) =>
              { c with transmissionsLeft := c.transmissionsLeft - 1 } }).settleRate
      else p

/-! ## Receiving (R144 to R147) -/

/-- A check failure of the frame being received: it is counted and the port hunts again (R144). -/
def LanePort.failFrame (p : LanePort) : LanePort :=
  { p with partialFrame := [], counts := p.counts.bumpCheckFailures }

/-- Offer an accepted telegram to the receive queue of 8 (R147). -/
def LanePort.accept (p : LanePort) (e : RxEntry) : LanePort :=
  if p.rx.length < 8 then { p with rx := p.rx ++ [e], counts := p.counts.bumpAccepted }
  else { p with counts := p.counts.bumpOverflows }

/-- The telegram of a valid frame judged on direction, SRC, TYPE and payload, once its DEST is the part's: none when it is
rejected (R146 steps 2 to 4). -/
def judgeTelegram (role : Role) (control : Octet) (f : Frame) : Option RxEntry :=
  if controlD control then none
  else if roleAllows role f.src f.type then
    (decodePayload f.type f.payload).map fun t => { src := f.src, telegram := t }
  else none

/-- A valid telegram: the lane is heard, and the telegram is judged on its addresses and type (R146). -/
def State.validTelegram (s : State) (l : LaneId) (control : Octet) (f : Frame) : State :=
  let s1 := s.laneHeard l
  if f.dest = 0xFE then
    match judgeTelegram s.settings.lanes[l].role control f with
    | some e => s1.onLane l fun p => p.accept e
    | none => s1.raise .telegramRejected (.lane l)
  else s1.onLane l fun p => { p with counts := p.counts.bumpForeign }

/-- Judge a whole frame on CONTROL and CHECK (R145). A repaired CONTROL of a valid telegram counts as corrected also where the
telegram is then rejected. DESIGN CHOICE (notes/assumptions/44.md). -/
def State.judgeFrame (s : State) (l : LaneId) (octets : List Octet) : State :=
  match frameOf octets with
  | none => s.onLane l LanePort.failFrame
  | some f =>
    match judgeControl f.control with
    | none => s.onLane l LanePort.failFrame
    | some (control, repaired) =>
      if check (f.covered control) = f.checkOctets then
        let s1 := s.onLane l fun p =>
          { p with
            partialFrame := []
            counts := if repaired then p.counts.bumpCorrected else p.counts }
        s1.validTelegram l control f
      else s.onLane l LanePort.failFrame

/-- One octet arrives on a lane in use: hunting, collecting, or completing a frame (R144). A start octet seen with a framing
error begins no frame. DESIGN CHOICE (notes/assumptions/4.md). -/
def State.receiveOctet (s : State) (l : LaneId) (o : LineOctet) : State :=
  match s.lanes[l].partialFrame with
  | [] =>
    if o.value = 0xC5 ∧ !o.framingError then
      s.onLane l fun p => { p with partialFrame := [o.value], lastOctet := s.now }
    else s
  | received =>
    if o.framingError then s.onLane l LanePort.failFrame
    else
      let octets := received ++ [o.value]
      match frameLength octets with
      | some n =>
        if 200 < n then s.onLane l LanePort.failFrame
        else if frameComplete octets then State.finishAll s (s.judgeFrame l octets)
        else s.onLane l fun p => { p with partialFrame := octets, lastOctet := s.now }
      | none => s.onLane l fun p => { p with partialFrame := octets, lastOctet := s.now }

/-- FRAME: the octets arrive one after another; an UNUSED lane ignores every octet (R142, R144). -/
def execFrame (l : LaneId) (octets : List LineOctet) (s : State) : Host.Outcome State Fault Refusal :=
  whileRunning s fun s =>
    if s.settings.lanes[l].role = .unused then s else octets.foldl (fun s o => s.receiveOctet l o) s

/-- Has 5 ms passed without an octet of the frame being received (R144)? -/
def State.frameTimeoutDue (s : State) (l : LaneId) : Bool :=
  !s.lanes[l].partialFrame.isEmpty && elapsed s.lanes[l].lastOctet 5 s.now

/-- FRAME_TIMEOUT: the frame is a check failure and the port hunts again; outside a frame there is nothing to time out
(R144). -/
def execFrameTimeout (l : LaneId) (s : State) : Host.Outcome State Fault Refusal :=
  whileRunning s fun s => if s.frameTimeoutDue l then s.onLane l LanePort.failFrame else s

/-! ## Telegrams taken from the receive queues (R147) -/

/-- Take a telegram from the head of a lane's receive queue; a telegram that does not stand there is not taken (R147).
DESIGN CHOICE (notes/assumptions/3.md). -/
def State.takeRx (s : State) (l : LaneId) (e : RxEntry) : Option State :=
  match s.lanes[l].rx with
  | x :: rest => if x = e then some (s.onLane l fun p => { p with rx := rest }) else none
  | [] => none

/-- LINK_BEACON: the Lane Port takes the beacon at the head of the queue and discards it (R146). -/
def execLinkBeacon (l : LaneId) (status : Octet) (s : State) : Host.Outcome State Fault Refusal :=
  whileRunning s fun s =>
    let src : Octet := if s.settings.lanes[l].role = .radioA then 0xF8 else 0xF9
    (s.takeRx l { src := src, telegram := .linkBeacon status }).getD s

/-- A truck telegram at the head of a radio lane's receive queue goes to the Radio Pairing Unit as one event (R147, R152). -/
def truckCommand (l : LaneId) (src : TruckId) (telegram : Inbound) (s : State) : Host.Outcome State Fault Refusal :=
  whileRunning s fun s =>
    match s.takeRx l { src := src, telegram := telegram } with
    | some s1 => State.finish s (s1.pairTelegram l src telegram)
    | none => s

/-- ADMIT (R42). -/
def execTruckAdmit (l : LaneId) (src : TruckId) (sectionNo : Octet) (demand : BitVec 16) (flags : Octet) (s : State) :
    Host.Outcome State Fault Refusal :=
  truckCommand l src (.truckAdmit sectionNo demand flags) s

/-- DEMAND (R31). -/
def execTruckDemand (l : LaneId) (src : TruckId) (demand : BitVec 16) (flags : Octet) (s : State) :
    Host.Outcome State Fault Refusal :=
  truckCommand l src (.truckDemand demand flags) s

/-- APPROACH (R97). -/
def execTruckApproach (l : LaneId) (src : TruckId) (breakNo : Octet) (s : State) : Host.Outcome State Fault Refusal :=
  truckCommand l src (.truckApproach breakNo) s

/-- PASSED (R103). -/
def execTruckPassed (l : LaneId) (src : TruckId) (breakNo : Octet) (s : State) : Host.Outcome State Fault Refusal :=
  truckCommand l src (.truckPassed breakNo) s

/-- LOWERED (R28). -/
def execTruckLowered (l : LaneId) (src : TruckId) (s : State) : Host.Outcome State Fault Refusal :=
  truckCommand l src .truckLowered s

/-! ## PAIRING_WINDOW_END (R153) -/

/-- Has the window of a copy held in BOTH mode ended (R153)? -/
def State.copyOver (s : State) (c : RadioCopy) : Bool :=
  s.settings.pairingMode == .both && elapsed c.arrival c.window s.now

/-- PAIRING_WINDOW_END: the held copy is discarded and counts unpaired on its lane (R153). -/
def execPairingWindowEnd (t : TruckId) (s : State) : Host.Outcome State Fault Refusal :=
  whileRunning s fun s =>
    match (s.truck? t).bind fun r => r.slot with
    | some c => if s.copyOver c then (s.countUnpaired c.lane).setSlot t none else s
    | none => s

end Sys2Proof.Machine
end

