-- ==== Sys2Proof/Machine/Feeder.lean ====
section
/-! DEFINITION. Feeder supervision (R122 to R139): the FEEDER_REPORT command, the change of a section to LIVE and to DEAD,
the overdraw watch, and FEEDER_HOLD_EXPIRY, RESTORE_TURN and RESTORE_LAPSE. -/

namespace Sys2Proof.Machine

/-! ## The overdraw watch (R137, R138) -/

/-- TIMING judged: DECLARED once the persistence has passed since its start (R137). -/
def judgeTiming (start persistence now : Time) : Overdraw :=
  if elapsed start persistence now then .declared else .timing start

/-- The overdraw state after a report that finds the condition to hold or not (R137). -/
def overdrawAfter (persistence now : Time) (holds : Bool) : Overdraw → Overdraw
  | .clear => if holds then judgeTiming now persistence now else .clear
  | .timing start => if holds then judgeTiming start persistence now else .clear
  | .declared => if holds then .declared else .clear

/-- The overdraw condition: the measured current exceeds the issued grants of the section plus its tolerance (R137). -/
def State.drawsOver (s : State) (k : SectionId) (current : Amps) : Bool :=
  issuedSum s.sections[k].holders + s.settings.sections[k].overdrawTolerance < current

/-- Judge the overdraw state of a section against a report, and raise OVERDRAW where it declares it (R137, R138). -/
def State.judgeOverdraw (s : State) (k : SectionId) (current : Amps) : State :=
  let after := overdrawAfter s.settings.sections[k].overdrawPersistence s.now (s.drawsOver k current)
    s.feeders[k].overdraw
  let s1 := s.onFeeder k fun f => { f with overdraw := after }
  if after = .declared ∧ s.feeders[k].overdraw ≠ .declared then s1.raise .overdraw (.sec k) else s1

/-! ## A report with the breaker CLOSED (R123, R127, R133) -/

/-- The last report is replaced and the record is FRESH (R123). -/
def State.recordReport (s : State) (k : SectionId) (f : FeederFigures) : State :=
  s.onFeeder k fun r => { r with lastReport := some f, age := .fresh }

/-- Does the report's event run a pass: the section has become LIVE, its effective capacity has changed, or OVERDRAW has
been declared or cleared (R123)? -/
def passAfterReport (s after : State) (k : SectionId) : Bool :=
  !s.isLive k || s.feeders[k].effective != after.feeders[k].effective || s.inOverdraw k != after.inOverdraw k

/-- The next restore turn, the increase spacing from now, if SUSPENDED holders remain (R133, R134). -/
def State.setNextTurn (s : State) (k : SectionId) : State :=
  s.onFeeder k fun f =>
    { f with nextTurn :=
        if s.hasSuspended k then some (s.now + s.settings.sections[k].increaseSpacing) else none }

/-- A report with the breaker CLOSED (R123, R124, R127, R133). -/
def State.reportClosed (before s : State) (k : SectionId) (f : FeederFigures) : State :=
  let wasDead := s.sections[k].state = .dead
  let s1 := if s.isLive k then s.judgeOverdraw k f.current else s
  let s2 := ((s1.recordReport k f).onSection k fun r => { r with state := .live }).setEffective k
    (effectiveCapacity s.settings.sections[k] f)
  let s3 :=
    if wasDead then
      (s2.onFeeder k fun r => { r with restoreEnd := none }).raise .sectionRestored (.sec k)
    else s2
  let s4 := if passAfterReport s s3 k then State.pass before s3 k else s3
  if wasDead then s4.setNextTurn k else s4

/-! ## A section goes DEAD (R131, R132, R136) -/

/-- The section record of a section that has just gone DEAD: every holder at 0, the ramp queue empty, the fall recorded as a
decrease, spare 0 (R131 steps 1 and 3); no pass can be pending on it (R60). -/
def SectionRecord.suspend (now : Time) (r : SectionRecord) : SectionRecord :=
  { r with
    state := .dead
    spare := 0
    holders := r.holders.map fun h => { h with issued := 0, target := 0, entry := .absent }
    ramp := []
    lastDecrease := if r.holders.any fun h => 0 < h.issued then some now else r.lastDecrease
    passPending := false }

/-- The boost of a holder ends, and its state becomes SUSPENDED (R131 steps 2 and 3). -/
def State.suspendTruck (s : State) (t : TruckId) : State :=
  (s.endBoost t).onTruck t fun r => { r with state := .suspended }

/-- Every boost of the section's holders ends, and every holder becomes SUSPENDED (R131 steps 2 and 3). -/
def State.suspendTrucks (s : State) (k : SectionId) : State :=
  (s.sections[k].holders.map fun h => h.truck).foldl State.suspendTruck s

/-- Remove every approach entry at the break above a section (R4 step 1, R114). -/
def State.clearApproaches (s : State) (k : SectionId) : State := s.onBreak k fun r => { r with approaches := [] }

/-- Turn every HANDOVER entry into a section into an EXIT entry (R4 step 2, R115). -/
def State.refuseHandovers (s : State) (k : SectionId) (reason : LowerReason) : State :=
  match breakBelow k with
  | some b => (s.handoversInto k).foldl (fun s e => s.refuse b e reason) s
  | none => s

/-- A pass on the section above where the break held a reservation into it (R114). -/
def State.passAbove (before s : State) (k : SectionId) (entries : List ApproachEntry) : State :=
  match sectionAbove k with
  | some above => if entries.any fun e => e.isHandover then State.pass before s above else s
  | none => s

/-- A LIVE section goes DEAD: steps 1 to 7 of R131, the restore window apart. -/
def State.goDead (before s : State) (k : SectionId) : State :=
  let entries := s.breaks[k].approaches
  let s1 := ((s.suspendTrucks k).onSection k fun r => r.suspend s.now).setEffective k 0
  let s2 := State.passAbove before ((s1.clearApproaches k).refuseHandovers k .dead) k entries
  let s3 := s2.onFeeder k fun f => { f with overdraw := .clear, nextTurn := none }
  (s3.sections[k].holders.foldl (fun s h => s.sendLower h.truck .dead) s3).raise .sectionDead (.sec k)

/-- The stranded holders of a DEAD section are given up: each SUSPENDED holder is released to IDLE, with its LOWER if one is
sent, and RESTORE_LAPSED is raised (R135, R136). -/
def State.giveUp (before s : State) (k : SectionId) (reason : Option LowerReason) : State :=
  let stranded := (s.sections[k].holders.filter fun h => s.isSuspended h.truck).map fun h => h.truck
  (stranded.foldl (fun s t => State.release before s t reason true) s).raise .restoreLapsed (.sec k)

/-- Give up the stranded holders if there are any (R136). -/
def State.giveUpAny (before s : State) (k : SectionId) (reason : Option LowerReason) : State :=
  if s.hasSuspended k then State.giveUp before s k reason else s

/-- The restore window starts if any holder is SUSPENDED; with a setting of 0 it lapses at once (R131 step 8, R135). -/
def State.startRestore (before s : State) (k : SectionId) : State :=
  if s.hasSuspended k then
    if s.settings.restoreWindow = 0 then State.giveUp before s k (some .released)
    else s.onFeeder k fun f => { f with restoreEnd := some (s.now + s.settings.restoreWindow) }
  else s

/-- A restore window that is running ends (R136). -/
def State.stopRestore (s : State) (k : SectionId) : State := s.onFeeder k fun f => { f with restoreEnd := none }

/-- An UNREPORTED section goes DEAD: no truck is touched (R132). -/
def State.deadUnreported (s : State) (k : SectionId) : State :=
  (s.onSection k fun r => { r with state := .dead }).raise .sectionDead (.sec k)

/-- A report with the breaker OPEN or TRIPPED: a LIVE section goes DEAD and keeps its stranded holders for the restore window,
a DEAD one changes only its record, an UNREPORTED one goes DEAD (R126, R131, R132). -/
def State.reportOpen (before s : State) (k : SectionId) : State :=
  match s.sections[k].state with
  | .live => State.startRestore before (State.goDead before s k) k
  | .dead => s
  | .unreported => s.deadUnreported k
  | .outOfService => s

/-- A report with the breaker LOCKED_OUT: the section is DEAD, its stranded holders are given up, and no restore window runs.
The holders of a section that was LIVE are sent the LOWER(DEAD) of its death alone (R126, R132, R136). -/
def State.reportLockedOut (before s : State) (k : SectionId) : State :=
  let s1 := match s.sections[k].state with
    | .live => State.giveUpAny before (State.goDead before s k) k none
    | .dead => State.giveUpAny before s k (some .released)
    | .unreported => s.deadUnreported k
    | .outOfService => s
  s1.stopRestore k

/-! ## FEEDER_REPORT (R123) -/

/-- The figures of a report, each above its range taken at the top of it (R123). -/
def reportFigures (breaker : BreakerState) (capacity current volts : BitVec 16) : FeederFigures :=
  { breaker := breaker
    capacity := min capacity.toNat 12000
    current := min current.toNat 15000
    volts := min volts.toNat 4000 }

/-- A report for a feeder: one naming no section, or a section out of service, is taken no further (R3, R123). -/
def State.feederReport (before s : State) (feeder : Nat) (f : FeederFigures) : State :=
  match sectionOfNumber feeder with
  | none => s
  | some k =>
    if s.inService k then
      match f.breaker with
      | .closed => State.reportClosed before s k f
      | .lockedOut => State.reportLockedOut before (s.recordReport k f) k
      | _ => State.reportOpen before (s.recordReport k f) k
    else s

/-- FEEDER_REPORT at the head of the FEEDER lane's receive queue (R123, R147). -/
def execFeederReport (feeder : Octet) (breaker : BreakerState) (capacity current volts : BitVec 16) (s : State) :
    Host.Outcome State Fault Refusal :=
  whileRunning s fun s =>
    match s.laneOfRole .feeder with
    | none => s
    | some l =>
      match s.takeRx l { src := 0xF1, telegram := .feederReport feeder breaker capacity current volts } with
      | some s1 =>
        State.finish s (State.feederReport s s1 feeder.toNat (reportFigures breaker capacity current volts))
      | none => s

/-! ## FEEDER_HOLD_EXPIRY, RESTORE_TURN, RESTORE_LAPSE -/

/-- Has the feeder hold time passed since the hold timer's start (R128)? -/
def State.holdDue (s : State) : Bool :=
  match s.holdTimer with
  | some t => elapsed t s.settings.feederHoldTime s.now
  | none => false

/-- FEEDER_HOLD_EXPIRY: every HELD record is derated; the passes are events of their own (R129). -/
def execFeederHoldExpiry (s : State) : Host.Outcome State Fault Refusal :=
  whileRunning s fun s => if s.holdDue then State.finish s s.derateAll else s

/-- Has the next restore turn of a LIVE section come (R134)? -/
def State.turnDue (s : State) (k : SectionId) : Bool :=
  s.isLive k &&
    match s.feeders[k].nextTurn with
    | some t => t ≤ s.now
    | none => false

/-- Take a SUSPENDED holder back into ordinary service, with entry RESTORED (R134). -/
def State.restoreHolder (s : State) (k : SectionId) (t : TruckId) : State :=
  (s.onTruck t fun r => { r with state := .holder }).onSection k fun r =>
    { r with holders := r.holders.map fun h => if h.truck = t then { h with entry := .restored } else h }

/-- The oldest SUSPENDED holder of a section. -/
def State.oldestSuspended (s : State) (k : SectionId) : Option TruckId :=
  (s.sections[k].holders.find? fun h => s.isSuspended h.truck).map fun h => h.truck

/-- One restore turn: the oldest SUSPENDED holder returns, a pass runs, and the next turn is set or the turns end (R134). A
turn that comes due with no SUSPENDED holder left ends the turns and runs no pass.
DESIGN CHOICE (notes/assumptions/37.md). -/
def State.restoreTurn (before s : State) (k : SectionId) : State :=
  match s.oldestSuspended k with
  | some t => (State.pass before (s.restoreHolder k t) k).setNextTurn k
  | none => s.setNextTurn k

/-- RESTORE_TURN (R134). -/
def execRestoreTurn (k : SectionId) (s : State) : Host.Outcome State Fault Refusal :=
  whileRunning s fun s => if s.turnDue k then State.finish s (State.restoreTurn s s k) else s

/-- Has the restore window of a DEAD section ended (R135)? -/
def State.lapseDue (s : State) (k : SectionId) : Bool :=
  s.sections[k].state == .dead &&
    match s.feeders[k].restoreEnd with
    | some t => t ≤ s.now
    | none => false

/-- RESTORE_LAPSE: the stranded holders are released with LOWER(RELEASED), and the window is over (R135). -/
def execRestoreLapse (k : SectionId) (s : State) : Host.Outcome State Fault Refusal :=
  whileRunning s fun s =>
    if s.lapseDue k then State.finish s ((State.giveUp s s k (some .released)).stopRestore k) else s

end Sys2Proof.Machine
end

