-- ==== Sys2Proof/Machine/Settings.lean ====
section
/-! DEFINITION. What SET and GET do with each item (10.7): reading an item, and writing it with the effects that the rule
owning the setting gives (R1, R4, R5, R7, R12 to R14, R22 to R24, R94, R122, R125, R142, R143, R156, R167). -/

namespace Sys2Proof.Machine

/-! ## Reading an item (R160) -/

/-- Change the settings. -/
def State.onSettings (s : State) (f : Settings → Settings) : State := { s with settings := f s.settings }

/-- An event record as a four-octet value: flag, count, subject kind, subject number (R171). Bits 7 to 1 of the flag's octet, of
which R169 gives bit 0 alone, are 0. DESIGN CHOICE (notes/assumptions/42.md). -/
def EventRecord.value (r : EventRecord) : Nat :=
  ((flagCode r.flag * 256 + r.count) * 256 + r.subject.codes.1) * 256 + r.subject.codes.2

/-- The value of a part-wide item. -/
def State.readPart (s : State) : PartItem → ReplyValue
  | .sectionCount => .word s.settings.sectionCount
  | .demandInterval => .word s.settings.demandInterval
  | .silenceLimit => .word s.settings.silenceLimit
  | .abandonLimit => .word s.settings.abandonLimit
  | .refreshInterval => .word s.settings.refreshInterval
  | .resyncWindow => .word s.settings.resyncWindow
  | .feederHoldTime => .word s.settings.feederHoldTime
  | .fallbackPercentage => .word s.settings.fallbackPercentage
  | .restoreWindow => .word s.settings.restoreWindow
  | .pairingMode => .word s.settings.pairingMode.code
  | .pairingWindow => .word s.settings.pairingWindow
  | .supervisoryMask => .word s.settings.supervisoryMask.toNat
  | .feederMask => .word s.settings.feederMask.toNat
  | .cabinetIdentity => .identity Config.cabinetIdentity
  | .lockCell => .word (flagCode s.lock)

/-- The value of an item of a section record. -/
def SectionSettings.read (c : SectionSettings) : SectionItem → Nat
  | .enabled => flagCode c.enabled
  | .rating => c.rating
  | .margin => c.margin
  | .knee => c.knee
  | .cut => c.cut
  | .overdrawTolerance => c.overdrawTolerance
  | .overdrawPersistence => c.overdrawPersistence
  | .increaseSpacing => c.increaseSpacing
  | .mode => modeCode c.mode

/-- The value of an item of a break record. -/
def BreakSettings.read (c : BreakSettings) : BreakItem → Nat
  | .gapEnabled => flagCode c.gapEnabled
  | .edgeSelect => c.edgeSelect.code
  | .deadTime => c.deadTime
  | .evidenceMode => c.evidenceMode.code
  | .gapCurrent => c.gapCurrent
  | .settleTime => c.settleTime
  | .gapTimeout => c.gapTimeout
  | .evidenceWindow => c.evidenceWindow
  | .lateWindow => c.lateWindow

/-- The value of an item of a class record. -/
def ClassRecord.read (c : ClassRecord) : ClassItem → Nat
  | .floor => c.floor
  | .ceiling => c.ceiling
  | .boostCeiling => c.boostCeiling
  | .weight => c.weight
  | .fixedGrant => c.fixedGrant
  | .rampProfile => c.rampProfile
  | .boostLimit => c.boostLimit
  | .boostCooldown => c.boostCooldown

/-- The value of an item of a lane: its settings and its counts (R142, R151). -/
def readLane (c : LaneSettings) (counts : LaneCounts) : LaneItem → Nat
  | .role => c.role.code
  | .lineRate => c.lineRate
  | .silenceLimit => c.silenceLimit
  | .accepted => counts.accepted
  | .checkFailures => counts.checkFailures
  | .corrected => counts.corrected
  | .foreignAddress => counts.foreignAddress
  | .receiveOverflows => counts.receiveOverflows
  | .transmitDrops => counts.transmitDrops
  | .unpaired => counts.unpaired

/-- The value an item has at one member; an item read at a member of another family does not occur (`Item.members`). -/
def State.readItem (s : State) : Item → Member → ReplyValue
  | .part i, _ => s.readPart i
  | .sec i, .sec k => .word (s.settings.sections[k].read i)
  | .brk i, .brk b => .word (s.settings.breaks[b].read i)
  | .cls i, .cls c => .word (s.settings.classes[c].read i)
  | .lane i, .lane l => .word (readLane s.settings.lanes[l] s.lanes[l].counts i)
  | .event .record, .kind e => .word s.events[e.code].value
  | .event .lastCleared, .kind e => .word s.lastCleared[e.code].value
  | _, _ => .word 0

/-! ## Sections entering and leaving service (R1, R4, R5) -/

/-- A section takes the state OUT_OF_SERVICE, with its feeder record, overdraw state and restore window (R4). -/
def State.markOut (s : State) (k : SectionId) : State :=
  (s.onSection k fun r =>
    { r with state := .outOfService, available := 0, spare := 0, passPending := false }).onFeeder k
      fun _ => FeederRecord.empty

/-- A truck of a section that leaves service is released to IDLE and sent LOWER(NO_SECTION) (R4 step 3). -/
def State.releaseOut (s : State) (t : TruckId) : State := (s.vacate t false).sendLower t .noSection

/-- The trucks of a section: its holders, oldest first, and then its queue, head first. -/
def State.trucksOf (s : State) (k : SectionId) : List TruckId :=
  (s.sections[k].holders.map fun h => h.truck) ++ (s.queues[k].map fun e => e.truck)

/-- A pass on the section above is called for, where there is one and it is LIVE (R4 step 1, R160). -/
def State.callPassAbove (s : State) (k : SectionId) : State :=
  match sectionAbove k with
  | some above => s.callPass above
  | none => s

/-- The numbered steps of R4, once the section is OUT_OF_SERVICE. -/
def State.emptyOut (s : State) (k : SectionId) : State :=
  let s1 := ((s.clearApproaches k).callPassAbove k).refuseHandovers k .exit
  ((s1.trucksOf k).foldl State.releaseOut s1).onSection k fun r => { r with ramp := [] }

/-- A section leaves service (R4). -/
def State.leaveService (s : State) (k : SectionId) : State := (s.markOut k).emptyOut k

/-- A section enters service (R5). DEDUCED (notes/assumptions/31.md). -/
def State.enterService (s : State) (k : SectionId) : State :=
  ((s.onSection k fun r =>
    { r with state := .unreported, available := 0, spare := 0, holders := [], ramp := [], passPending := false }).onFeeder k
      fun _ => FeederRecord.empty).onQueue k fun _ => []

/-- A change of the section count: the sections at or above it leave service, first all in state and then each with its
steps; the enabled ones below it enter service; the gap inputs of breaks whose use changes have no reference level (R1,
R13). -/
def State.changeCount (s : State) (n : Nat) : State :=
  let leaving := allSections.filter fun k => n ≤ k.val && s.inService k
  let entering := allSections.filter fun k => k.val < n && s.settings.sections[k].enabled && !s.inService k
  let changing := allBreaks.filter fun b => decide (breakNumber b ≤ n) != s.breakInUse b
  let s1 := s.onSettings fun c => { c with sectionCount := n }
  let s2 := leaving.foldl State.emptyOut (leaving.foldl State.markOut s1)
  let s3 := entering.foldl State.enterService s2
  changing.foldl (fun s b => s.onBreak b fun r => { r with reference := none }) s3

/-! ## Settings of sections (R2, R4 to R7, R122, R125) -/

/-- Change the settings of a section. -/
def State.onSectionSettings (s : State) (k : SectionId) (f : SectionSettings → SectionSettings) : State :=
  s.onSettings fun c => { c with sections := updateAt c.sections k f }

/-- The effective capacity worked out again for a changed rating, knee or cut (R7, R125). -/
def State.recomputed (s : State) (k : SectionId) : Amps :=
  match s.feeders[k].age, s.feeders[k].lastReport with
  | .fresh, some f => effectiveCapacity s.settings.sections[k] f
  | .held, some f => effectiveCapacity s.settings.sections[k] f
  | .derated, _ => min s.feeders[k].effective s.settings.sections[k].rating
  | _, _ => 0

/-- A LIVE section's effective capacity is worked out again, and a pass is called for if it changed (R7, R125). -/
def State.recompute (s : State) (k : SectionId) : State :=
  if s.isLive k then
    if s.recomputed k = s.feeders[k].effective then s else (s.setEffective k (s.recomputed k)).callPass k
  else s

/-- SET of the enabled field (R4, R5). -/
def State.setEnabled (s : State) (k : SectionId) (yes : Bool) : State :=
  let s1 := s.onSectionSettings k fun c => { c with enabled := yes }
  if yes then
    if k.val < s.settings.sectionCount && !s.inService k then s1.enterService k else s1
  else if s.inService k then s1.leaveService k
  else s1

/-- SET of the rating; the present value written changes nothing (R2, R7). -/
def State.setRating (s : State) (k : SectionId) (amps : Amps) : State :=
  if s.settings.sections[k].rating = amps then s
  else (s.onSectionSettings k fun c => { c with rating := amps }).recompute k

/-- SET of the margin: A is worked out again and a pass is called for on a LIVE section (R2, R7). -/
def State.setMargin (s : State) (k : SectionId) (amps : Amps) : State :=
  if s.settings.sections[k].margin = amps then s
  else
    let s1 := s.onSectionSettings k fun c => { c with margin := amps }
    (s1.setEffective k s1.feeders[k].effective).callPass k

/-- The knee a written value gives: in its range, and at least 25 V above the cut (R122, R125). -/
def kneeSetting (cut v : Nat) : Nat := max (cut + 25) (clampTo 25 4000 v)

/-- The cut a written value gives: in its range, and at least 25 V below the knee (R122, R125). -/
def cutSetting (knee v : Nat) : Nat := min (knee - 25) (clampTo 0 3975 v)

/-- The effective capacity of a record that a voltage change works out again: a DERATED one is unchanged (R125). -/
def State.recomputeVolts (s : State) (k : SectionId) : State :=
  if s.feeders[k].age = .derated then s else s.recompute k

/-- Write an item of a section (R160). A section's mode is read only to SET. -/
def State.writeSection (s : State) (i : SectionItem) (k : SectionId) (v : Nat) : State :=
  match i with
  | .enabled => s.setEnabled k (flagOfValue v)
  | .rating => s.setRating k (ampsSetting 0 12000 v)
  | .margin => s.setMargin k (ampsSetting 0 3000 v)
  | .knee => (s.onSectionSettings k fun c => { c with knee := kneeSetting c.cut v }).recomputeVolts k
  | .cut => (s.onSectionSettings k fun c => { c with cut := cutSetting c.knee v }).recomputeVolts k
  | .overdrawTolerance => s.onSectionSettings k fun c => { c with overdrawTolerance := ampsSetting 0 1000 v }
  | .overdrawPersistence => s.onSectionSettings k fun c => { c with overdrawPersistence := clampTo 0 10000 v }
  | .increaseSpacing => s.onSectionSettings k fun c => { c with increaseSpacing := clampTo 0 5000 v }
  | .mode => s

/-! ## Settings of breaks (R12 to R14, R94) -/

/-- Change the settings of a break. -/
def State.onBreakSettings (s : State) (b : BreakId) (f : BreakSettings → BreakSettings) : State :=
  s.onSettings fun c => { c with breaks := updateAt c.breaks b f }

/-- SET of the gap input enable: the reference level is taken afresh, and disabling forgets the last accepted edge time (R13,
R14). -/
def State.setGapEnabled (s : State) (b : BreakId) (on : Bool) : State :=
  (s.onBreakSettings b fun c => { c with gapEnabled := on }).onBreak b fun r =>
    { r with reference := none, lastEdge := if on then r.lastEdge else none }

/-- Write an item of a break (R160). -/
def State.writeBreak (s : State) (i : BreakItem) (b : BreakId) (v : Nat) : State :=
  match i with
  | .gapEnabled => s.setGapEnabled b (flagOfValue v)
  | .edgeSelect => s.onBreakSettings b fun c => { c with edgeSelect := edgeSelectOfValue v }
  | .deadTime => s.onBreakSettings b fun c => { c with deadTime := clampTo 0 2000 v }
  | .evidenceMode => s.onBreakSettings b fun c => { c with evidenceMode := evidenceModeOfValue v }
  | .gapCurrent => s.onBreakSettings b fun c => { c with gapCurrent := ampsSetting 0 200 v }
  | .settleTime => s.onBreakSettings b fun c => { c with settleTime := clampTo 100 2000 v }
  | .gapTimeout => s.onBreakSettings b fun c => { c with gapTimeout := clampTo 2000 60000 v }
  | .evidenceWindow => s.onBreakSettings b fun c => { c with evidenceWindow := clampTo 0 5000 v }
  | .lateWindow => s.onBreakSettings b fun c => { c with lateWindow := clampTo 0 10000 v }

/-! ## Settings of classes (R22 to R24) -/

/-- A class record with one field written, the order floor ≤ fixed grant ≤ ceiling ≤ boost ceiling held (R22, R23). -/
def ClassRecord.write (c : ClassRecord) (v : Nat) : ClassItem → ClassRecord
  | .floor =>
    let floor := min c.ceiling (ampsSetting 25 2000 v)
    { c with floor := floor, fixedGrant := max floor c.fixedGrant }
  | .ceiling =>
    let ceiling := min c.boostCeiling (max c.floor (ampsSetting 0 4000 v))
    { c with ceiling := ceiling, fixedGrant := min ceiling c.fixedGrant }
  | .boostCeiling => { c with boostCeiling := max c.ceiling (ampsSetting 0 4000 v) }
  | .weight => { c with weight := clampTo 1 8 v }
  | .fixedGrant => { c with fixedGrant := clampTo c.floor c.ceiling (quantumDown v) }
  | .rampProfile => { c with rampProfile := clampTo 0 7 v }
  | .boostLimit => { c with boostLimit := clampTo 0 120 v }
  | .boostCooldown => { c with boostCooldown := clampTo 0 600 v }

/-- Does a change of the item call for passes (R24)? -/
def ClassItem.callsPass : ClassItem → Bool
  | .rampProfile => false
  | .boostCooldown => false
  | _ => true

/-- The record of a truck of the class once a class value has changed: its applied demand worked out again for a limit, its
boost ended for a boost limit of 0 (R24). -/
def Truck.afterClassChange (c : ClassRecord) (now : Time) (i : ClassItem) (r : Truck) : Truck :=
  match i with
  | .floor => r.reclamp c
  | .ceiling => r.reclamp c
  | .boostCeiling => r.reclamp c
  | .boostLimit => if c.boostLimit = 0 then r.endBoost c now else r
  | _ => r

/-- Is the truck enrolled in the class? -/
def State.isOfClass (s : State) (t : TruckId) (c : ClassId) : Bool :=
  match s.truck? t with
  | some r => r.cls == c
  | none => false

/-- Does the section hold, queue or reserve room for a truck of the class (R24)? -/
def State.concernsClass (s : State) (k : SectionId) (c : ClassId) : Bool :=
  s.sections[k].holders.any (fun h => s.isOfClass h.truck c)
    || s.queues[k].any (fun e => s.isOfClass e.truck c)
    || (s.handoversInto k).any (fun e => s.isOfClass e.truck c)

/-- Write an item of a class; a write that changes nothing has no effect (R24, R160). -/
def State.writeClass (s : State) (i : ClassItem) (c : ClassId) (v : Nat) : State :=
  let old := s.settings.classes[c]
  let new := old.write v i
  if new = old then s
  else
    let s1 := s.onSettings fun st => { st with classes := updateAt st.classes c fun _ => new }
    let s2 := { s1 with roster := s1.roster.map fun r => if r.cls = c then r.afterClassChange new s1.now i else r }
    if i.callsPass then
      (allSections.filter fun k => s2.concernsClass k c).foldl State.callPass s2
    else s2

/-! ## Settings of lanes (R142, R143) -/

/-- Change the settings of a lane. -/
def State.onLaneSettings (s : State) (l : LaneId) (f : LaneSettings → LaneSettings) : State :=
  s.onSettings fun c => { c with lanes := updateAt c.lanes l f }

/-- A lane gives up its role: QUIET first with every effect of a silence expiry, the pairing slots left as for a mode change,
and its queues and partial frame emptied (R142). -/
def State.leaveRole (s : State) (l : LaneId) : State :=
  let old := s.settings.lanes[l].role
  let s1 := if old != .unused && s.lanes[l].state != .quiet then s.laneQuiet l else s
  let s2 := if old.isRadio then s1.forgetCopies else s1
  s2.onLane l fun p => ({ p with rx := [], partialFrame := [] }).dropTx

/-- A lane changes its role (R142). -/
def State.changeRole (s : State) (l : LaneId) (role : Role) : State :=
  (((s.leaveRole l).onLane l fun p => { p with state := .await, silenceStart := s.now }).onLaneSettings l
    fun c => { c with role := role }).updateDegraded none

/-- SET of a lane's role: a lane that holds the role already becomes UNUSED; the present role written changes nothing
(R142). DEDUCED (notes/assumptions/12.md). -/
def State.setRole (s : State) (l : LaneId) (role : Role) : State :=
  if s.settings.lanes[l].role = role then s
  else
    match if role = .unused then none else s.laneOfRole role with
    | some other => (s.changeRole other .unused).changeRole l role
    | none => s.changeRole l role

/-- SET of a lane's line rate: the change waits for the telegram in transmission, behind the changes that wait already
(R143). -/
def State.setLineRate (s : State) (l : LaneId) (rate : Nat) : State :=
  if s.settings.lanes[l].lineRate = rate then s
  else
    (s.onLaneSettings l fun c => { c with lineRate := rate }).onLane l fun p =>
      { p with rateChanges := p.rateChanges ++ [{ rate := rate, transmissionsLeft := p.sending.toList.length }] }

/-- Write an item of a lane (R160). Counts are read only. -/
def State.writeLane (s : State) (i : LaneItem) (l : LaneId) (v : Nat) : State :=
  match i with
  | .role => s.setRole l (roleOfValue v)
  | .lineRate => s.setLineRate l (rateSetting v)
  | .silenceLimit => s.onLaneSettings l fun c => { c with silenceLimit := clampTo 200 30000 v }
  | _ => s

/-! ## Part-wide settings -/

/-- SET of the pairing mode (R156). -/
def State.setPairingMode (s : State) (m : PairingMode) : State :=
  if s.settings.pairingMode = m then s
  else (s.forgetCopies.onSettings fun c => { c with pairingMode := m }).updateDegraded none

/-- The mask a written value gives: the members that name kinds 0 to 19 (R167), held in the low 24 bits of the value.
DEDUCED (notes/assumptions/39.md). -/
def maskSetting (v : Nat) : MemberSet := BitVec.ofNat 24 v &&& allKindsMask

/-- Write a part-wide item (R1, R31, R34, R36, R50, R61, R122, R152, R160, R167). The cabinet identity and the lock cell are
read only. -/
def State.writePart (s : State) (i : PartItem) (v : Nat) : State :=
  match i with
  | .sectionCount =>
    if s.settings.sectionCount = clampTo 1 6 v then s else s.changeCount (clampTo 1 6 v)
  | .demandInterval => s.onSettings fun c => { c with demandInterval := clampTo 0 5000 v }
  | .silenceLimit => s.onSettings fun c => { c with silenceLimit := clampTo 500 10000 v }
  | .abandonLimit => s.onSettings fun c => { c with abandonLimit := clampTo 5000 120000 v }
  | .refreshInterval => s.onSettings fun c => { c with refreshInterval := clampTo 100 5000 v }
  | .resyncWindow => s.onSettings fun c => { c with resyncWindow := clampTo 0 30000 v }
  | .feederHoldTime => s.onSettings fun c => { c with feederHoldTime := clampTo 0 60000 v }
  | .fallbackPercentage => s.onSettings fun c => { c with fallbackPercentage := clampTo 0 100 v }
  | .restoreWindow => s.onSettings fun c => { c with restoreWindow := clampTo 0 120000 v }
  | .pairingMode => s.setPairingMode (pairingModeOfValue v)
  | .pairingWindow => s.onSettings fun c => { c with pairingWindow := clampTo 20 1000 v }
  | .supervisoryMask => s.onSettings fun c => { c with supervisoryMask := maskSetting v }
  | .feederMask => s.onSettings fun c => { c with feederMask := maskSetting v }
  | .cabinetIdentity => s
  | .lockCell => s

/-! ## Writing an item (R160) -/

/-- Write a value to one member. -/
def State.writeMember (s : State) (item : Item) (m : Member) (v : Nat) : State :=
  match item, m with
  | .part i, _ => s.writePart i v
  | .sec i, .sec k => s.writeSection i k v
  | .brk i, .brk b => s.writeBreak i b v
  | .cls i, .cls c => s.writeClass i c v
  | .lane i, .lane l => s.writeLane i l v
  | _, _ => s

/-- Write a value to every member, lowest-numbered first. -/
def State.writeMembers (s : State) (item : Item) (ms : List Member) (v : Nat) : State :=
  ms.foldl (fun s m => s.writeMember item m v) s

/-- The newest line-rate change of a lane waits until every telegram that it sends or has queued has been sent (R143). -/
def LanePort.holdRate (p : LanePort) : LanePort :=
  { p with rateChanges := p.rateChanges.dropLast ++ p.rateChanges.getLast?.toList.map fun (c : RateChange) =>
      { c with transmissionsLeft := p.sending.toList.length + p.tx.length } }

/-- The line-rate changes that a SET has made: on the lane that carried the SET the change waits until its REPLY has been
sent, and a change that waits for nothing is in force (R143). DESIGN CHOICE (notes/assumptions/13.md). -/
def State.settleRates (before s : State) (carrier : LaneId) : State :=
  let s1 :=
    if before.settings.lanes[carrier].lineRate = s.settings.lanes[carrier].lineRate then s
    else s.onLane carrier LanePort.holdRate
  allLanes.foldl (fun s l => s.onLane l LanePort.settleRate) s1

end Sys2Proof.Machine
end

