-- ==== Sys2Proof/Machine/Supervisory.lean ====
section
/-! DEFINITION. The supervisory commands (R11, R19 to R21, R158 to R166): the order of checks, the replies, the
configuration window, STORE and its completion, and WINDOW_TIMER_EXPIRY. RESTART stands with the resets. -/

namespace Sys2Proof.Machine

/-! ## Taking a supervisory telegram (R147, R158) -/

/-- Is the configuration window open (R158)? -/
def State.windowOpen (s : State) : Bool := s.windowTimer.isSome

/-- Is a store in progress (R162)? -/
def State.storing (s : State) : Bool := s.storeJob.isSome

/-- The window timer restarts at each supervisory telegram the unit takes while the window is open (R158). -/
def State.touchWindow (s : State) : State := { s with windowTimer := s.windowTimer.map fun _ => s.now }

/-- A supervisory telegram at the head of the SUPERVISORY lane's receive queue is one event at the Supervisory Command Unit.
`f` is given the lane that carried it, the state at the start of the event and the state with the telegram taken. -/
def superCommand (telegram : Inbound) (f : LaneId → State → State → State) (s : State) :
    Host.Outcome State Fault Refusal :=
  whileRunning s fun s =>
    match s.laneOfRole .supervisory with
    | none => s
    | some l =>
      match s.takeRx l { src := 0xF0, telegram := telegram } with
      | some s1 => State.finishAll s (f l s s1.touchWindow)
      | none => s

/-! ## The order of checks (R159) -/

/-- The checks of the window, the store and the lock, in their order: the code of the first that fails (R159). -/
def State.turnedAway (s : State) (needsWindow busyInStore barredByLock : Bool) : Option ReplyCode :=
  if needsWindow && !s.windowOpen then some .notOpen
  else if busyInStore && s.storing then some .busy
  else if barredByLock && s.lock then some .locked
  else none

/-! ## CONFIG_OPEN and CONFIG_CLOSE (R158) -/

/-- CONFIG_OPEN judged: the part's own identity opens the window or keeps it open (R158). -/
def State.configOpen (s : State) (identity : BitVec 48) : State :=
  if identity = Config.cabinetIdentity then
    ({ s with windowTimer := some s.now }).reply .accepted typeConfigOpen
  else s.reply .wrongCabinet typeConfigOpen

/-- CONFIG_OPEN (R158). -/
def execConfigOpen (identity : BitVec 48) (s : State) : Host.Outcome State Fault Refusal :=
  superCommand (.configOpen identity) (fun _ _ s => s.configOpen identity) s

/-- CONFIG_CLOSE closes the window, open or not (R158). -/
def State.configClose (s : State) : State := ({ s with windowTimer := none }).reply .accepted typeConfigClose

/-- CONFIG_CLOSE (R158). -/
def execConfigClose (s : State) : Host.Outcome State Fault Refusal :=
  superCommand .configClose (fun _ _ s => s.configClose) s

/-! ## SET and GET (R159, R160) -/

/-- Is a reply value this number? -/
def ReplyValue.isWord (v : ReplyValue) (n : Nat) : Bool := v == .word n

/-- The code of the REPLY to a SET that passes its checks: ACCEPTED where the value that the lowest-numbered member has taken
is the value written, CLAMPED where it is not (R160). So a knee written at exactly 25 V above the cut is ACCEPTED.
DEDUCED (notes/assumptions/36.md). -/
def setCode (taken : ReplyValue) (v : Nat) : ReplyCode := if taken.isWord v then .accepted else .clamped

/-- The SET of an item that passes its checks: the writes, and then the REPLY with the value that the lowest-numbered member
has taken (R160). -/
def State.performSet (carrier : LaneId) (s : State) (item : Item) (code : Octet) (first : Member) (ms : List Member)
    (v : Nat) : State :=
  let s1 := s.writeMembers item ms v
  let taken := s1.readItem item first
  let s2 := s1.reply (setCode taken v) typeSet code (some taken)
  State.settleRates s s2 carrier

/-- SET judged in the order of the checks (R159, R160). -/
def State.setCommand (carrier : LaneId) (s : State) (code : Octet) (members : MemberSet) (v : Nat) : State :=
  match itemOfCode code.toNat with
  | none => s.reply .unknownItem typeSet code
  | some item =>
    if item.isReadOnly then s.reply .unknownItem typeSet code
    else
      match s.turnedAway true true item.isCommissioning with
      | some refusal => s.reply refusal typeSet code
      | none =>
        match item.members members with
        | [] => s.reply .emptySet typeSet code
        | first :: rest => State.performSet carrier s item code first (first :: rest) v

/-- SET (R160). -/
def execSetItem (item : Octet) (members : MemberSet) (value : BitVec 32) (s : State) :
    Host.Outcome State Fault Refusal :=
  superCommand (.setItem item members value) (fun l _ s => State.setCommand l s item members value.toNat) s

/-- GET judged in the order of the checks: the value of the lowest-numbered member (R159, R160). -/
def State.getCommand (s : State) (code : Octet) (members : MemberSet) : State :=
  match itemOfCode code.toNat with
  | none => s.reply .unknownItem typeGet code
  | some item =>
    match item.members members with
    | [] => s.reply .emptySet typeGet code
    | first :: _ => s.reply .accepted typeGet code (some (s.readItem item first))

/-- GET (R160). -/
def execGetItem (item : Octet) (members : MemberSet) (s : State) : Host.Outcome State Fault Refusal :=
  superCommand (.getItem item members) (fun _ _ s => s.getCommand item members) s

/-! ## SET_MODE (R11) -/

/-- The mode of one listed section is set: a section that leaves AUTO ends the boosts of its holders, and a LIVE section
runs its pass; a mode already set changes nothing (R11). -/
def State.setModeOf (before : State) (mode : Mode) (s : State) (k : SectionId) : State :=
  let old := s.settings.sections[k].mode
  if old = mode then s
  else
    let s1 := s.onSectionSettings k fun c => { c with mode := mode }
    let s2 :=
      if old = .auto then s1.sections[k].holders.foldl (fun s h => s.endBoost h.truck) s1 else s1
    State.pass before s2 k

/-- SET_MODE judged (R11, R159). -/
def State.setModes (before s : State) (members : MemberSet) (mode : Mode) : State :=
  match MemberSet.sections members with
  | [] => s.reply .emptySet typeSetMode
  | ks => (ks.foldl (State.setModeOf before mode) s).reply .accepted typeSetMode

/-- SET_MODE (R11). -/
def execSetMode (members : MemberSet) (mode : Mode) (s : State) : Host.Outcome State Fault Refusal :=
  superCommand (.setMode members mode) (fun _ before s => State.setModes before s members mode) s

/-! ## ENROL, UNENROL, FORCE_RELEASE (R19 to R21) -/

/-- The class a class number gives: above 3 it is C3 (R19). -/
def classOfNumber (n : Nat) : ClassId := if h : n < 4 then ⟨n, h⟩ else 3

/-- The REPLY to an ENROL that is taken: CLAMPED with the value 3 for a class number above 3 (R19). -/
def State.enrolReply (s : State) (classNo : Nat) : State :=
  if 3 < classNo then s.reply .clamped typeEnrol 0 (some (.word 3)) else s.reply .accepted typeEnrol

/-- ENROL by the table of R19. -/
def State.enrolTruck (s : State) (t : TruckId) (classNo : Nat) : State :=
  let cls := classOfNumber classNo
  match s.truck? t with
  | none =>
    if s.roster.length < 32 then
      ({ s with roster := s.roster ++ [Truck.fresh t cls s.settings.classes[cls].floor] }).enrolReply classNo
    else s.reply .rosterFull typeEnrol
  | some r =>
    if r.cls = cls then s.enrolReply classNo
    else if r.state = .idle then
      (s.onTruck t fun x => Truck.reclamp s.settings.classes[cls] { x with cls := cls }).enrolReply classNo
    else s.reply .truckActive typeEnrol

/-- ENROL judged (R19, R159). -/
def State.enrolCommand (s : State) (t : TruckId) (classNo : Nat) : State :=
  match s.turnedAway true true false with
  | some refusal => s.reply refusal typeEnrol
  | none => if isTruckAddress t then s.enrolTruck t classNo else s.reply .unknownTruck typeEnrol

/-- ENROL (R19). -/
def execEnrol (truck : TruckId) (classNo : Octet) (s : State) : Host.Outcome State Fault Refusal :=
  superCommand (.enrol truck classNo) (fun _ _ s => s.enrolCommand truck classNo.toNat) s

/-- Release a truck with LOWER(RELEASED); a truck that is IDLE is sent the LOWER and is otherwise unchanged (R20, R21). -/
def State.forceOut (before s : State) (r : Truck) : State :=
  match r.state with
  | .idle => s.sendLower r.id .released
  | _ => State.release before s r.id (some .released) true

/-- Remove the record of a truck, with its pairing slot (R20). -/
def State.removeTruck (s : State) (t : TruckId) : State := { s with roster := s.roster.filter fun r => r.id ≠ t }

/-- UNENROL judged (R20, R159). -/
def State.unenrolCommand (before s : State) (t : TruckId) : State :=
  match s.turnedAway true true false with
  | some refusal => s.reply refusal typeUnenrol
  | none =>
    match s.truck? t with
    | none => s.reply .unknownTruck typeUnenrol
    | some r => ((State.forceOut before s r).removeTruck t).reply .accepted typeUnenrol

/-- UNENROL (R20). -/
def execUnenrol (truck : TruckId) (s : State) : Host.Outcome State Fault Refusal :=
  superCommand (.unenrol truck) (fun _ before s => State.unenrolCommand before s truck) s

/-- FORCE_RELEASE judged: it needs no window and is not barred by a store (R21, R159). -/
def State.forceRelease (before s : State) (t : TruckId) : State :=
  match s.truck? t with
  | none => s.reply .unknownTruck typeForceRelease
  | some r => (State.forceOut before s r).reply .accepted typeForceRelease

/-- FORCE_RELEASE (R21). -/
def execForceRelease (truck : TruckId) (s : State) : Host.Outcome State Fault Refusal :=
  superCommand (.forceRelease truck) (fun _ before s => State.forceRelease before s truck) s

/-! ## READ_TABLE (R161) -/

/-- A holder as TABLE_IMAGE shows it (R77). -/
def State.holderImage (s : State) (h : Holder) : HolderImage :=
  { truck := h.truck, state := s.truckState h.truck, issued := h.issued, target := h.target,
    applied := match s.truck? h.truck with
      | some r => r.applied
      | none => 0 }

/-- An approach entry as TABLE_IMAGE shows it (R120). -/
def approachImage (e : ApproachEntry) : ApproachImage :=
  { truck := e.truck
    reservation := match e.kind with
      | .handover amount => some amount
      | .exit => none
    isCleared := e.isCleared
    gapGrant := e.gapGrant }

/-- The queue entries as TABLE_IMAGE shows them, head first (R53). -/
def queueImages (q : List QueueEntry) : List QueueImage :=
  q.zipIdx.map fun p => { position := p.2 + 1, truck := p.1.truck, rank := p.1.rank }

/-- The approach entries into a section, from the break below it; none for S0 or a section out of service (R161). -/
def State.approachesInto (s : State) (k : SectionId) : List ApproachEntry :=
  match breakBelow k with
  | some b => if s.inService k then s.breaks[b].approaches else []
  | none => []

/-- The TABLE_IMAGE of a section as it stands (R161). -/
def State.tableImage (s : State) (k : SectionId) : TableImage :=
  { sec := k
    state := s.sections[k].state
    mode := s.settings.sections[k].mode
    effective := s.feeders[k].effective
    available := s.sections[k].available
    spare := s.sections[k].spare
    holders := s.sections[k].holders.map s.holderImage
    approaches := (s.approachesInto k).map approachImage
    queue := queueImages s.queues[k] }

/-- One TABLE_IMAGE on the SUPERVISORY lane (R149, R161). -/
def State.sendImage (s : State) (image : TableImage) : State :=
  s.sendRole .supervisory { dest := 0xF0, urgent := false, answer := true, payload := .tableImage image }

/-- READ_TABLE judged: a TABLE_IMAGE for each listed section, and no REPLY (R161). -/
def State.readTables (s : State) (members : MemberSet) : State :=
  match MemberSet.sections members with
  | [] => s.reply .emptySet typeReadTable
  | ks => (ks.map s.tableImage).foldl State.sendImage s

/-- READ_TABLE (R161). -/
def execReadTable (members : MemberSet) (s : State) : Host.Outcome State Fault Refusal :=
  superCommand (.readTable members) (fun _ _ s => s.readTables members) s

/-! ## CLEAR_EVENTS (R166) -/

/-- CLEAR_EVENTS judged: each listed kind's record is copied and cleared (R166). -/
def State.clearEvents (s : State) (members : MemberSet) : State :=
  match MemberSet.kinds members with
  | [] => s.reply .emptySet typeClearEvents
  | kinds => (kinds.foldl State.clearEvent s).reply .accepted typeClearEvents

/-- CLEAR_EVENTS (R166). -/
def execClearEvents (members : MemberSet) (s : State) : Host.Outcome State Fault Refusal :=
  superCommand (.clearEvents members) (fun _ _ s => s.clearEvents members) s

/-! ## STORE (R162) and COMMISSION_LOCK (R163) -/

/-- What a STORE taken now writes: the settings and the enrolments as they stand (R162). -/
def State.storeImage (s : State) : StoreImage :=
  { settings := s.settings, roster := s.roster.map fun r => { truck := r.id, cls := r.cls } }

/-- How long the next STORE takes: a free time of 1 to 600 ms (R162). DESIGN CHOICE (notes/assumptions/14.md). -/
def State.storeDuration (s : State) : Time := 1 + Config.storeTime s.storesTaken % 600

/-- STORE judged: the store begins and is not answered yet (R162). -/
def State.storeCommand (s : State) : State :=
  match s.turnedAway true true false with
  | some refusal => s.reply refusal typeStore
  | none =>
    { s with
      storeJob := some { image := s.storeImage, started := s.now, duration := s.storeDuration }
      storesTaken := s.storesTaken + 1 }

/-- STORE (R162). -/
def execStore (s : State) : Host.Outcome State Fault Refusal :=
  superCommand .store (fun _ _ s => s.storeCommand) s

/-- The store runs to its end: the settings store holds its image, and the STORE is answered (R162). -/
def State.completeStore (s : State) (job : StoreJob) : State :=
  ({ s with storeCell := .holding job.image, storeJob := none }).reply .accepted typeStore

/-- STORE_COMPLETION: a store in progress ends once more than 0 ms have passed; with none in progress nothing happens
(R162). -/
def execStoreCompletion (s : State) : Host.Outcome State Fault Refusal :=
  whileRunning s fun s =>
    match s.storeJob with
    | some job => if job.started < s.now then s.completeStore job else s
    | none => s

/-- COMMISSION_LOCK judged: the lock cell is set, whether or not it was set already (R163). -/
def State.lockCommand (s : State) : State :=
  match s.turnedAway true true false with
  | some refusal => s.reply refusal typeCommissionLock
  | none => ({ s with lock := true }).reply .accepted typeCommissionLock

/-- COMMISSION_LOCK (R163). -/
def execCommissionLock (s : State) : Host.Outcome State Fault Refusal :=
  superCommand .commissionLock (fun _ _ s => s.lockCommand) s

/-! ## WINDOW_TIMER_EXPIRY (R158) -/

/-- Have 60 s passed since the window timer's last start (R158)? -/
def State.windowDue (s : State) : Bool :=
  match s.windowTimer with
  | some t => elapsed t 60000 s.now
  | none => false

/-- WINDOW_TIMER_EXPIRY: the window closes, with no telegram and no event (R158). -/
def execWindowTimerExpiry (s : State) : Host.Outcome State Fault Refusal :=
  whileRunning s fun s => if s.windowDue then { s with windowTimer := none } else s

end Sys2Proof.Machine
end

