-- ==== Sys2Proof/Machine/Reset.lean ====
section
/-! DEFINITION. Power, the RESET pin and RESTART (R16, R37, R54, R78, R93, R121, R141, R157, R162 to R165, R168), and the two
timers that every reset starts: the resync window and the refresh timer (R50, R61). -/

namespace Sys2Proof.Machine

/-! ## What every reset does -/

/-- The state of a section right after a reset, from the count and its enabled field (R16). -/
def resetSection (c : Settings) (k : SectionId) : SectionRecord :=
  SectionRecord.empty (if k.val < c.sectionCount && c.sections[k].enabled then .unreported else .outOfService)

/-- The record of a truck right after a reset (R37, R157). -/
def resetTruck (c : Settings) (e : Enrolment) : Truck := Truck.fresh e.truck e.cls c.classes[e.cls].floor

/-- Every block at its reset values, the lanes and the settings apart: the sections, grant tables, ramp queues, queues, breaks,
feeder records, trucks, event records and timers (R16, R37, R54, R78, R93, R121, R141, R168). -/
def State.clearBlocks (s : State) (roster : List Enrolment) : State :=
  { s with
    windowTimer := none
    handed := []
    roster := roster.map (resetTruck s.settings)
    queues := Vector.replicate 6 []
    resyncOpened := none
    sections := Vector.ofFn (resetSection s.settings)
    feeders := Vector.replicate 6 FeederRecord.empty
    holdTimer := none
    breaks := Vector.replicate 6 BreakRecord.empty
    refreshStart := s.now
    events := Vector.replicate 20 EventRecord.clear
    lastCleared := Vector.replicate 20 EventRecord.clear }

/-- The resync window opens, and RESYNC is sent with the whole setting; with a setting of 0 the window does not open (R50, R51).
Every reset has cleared the repeat flags by then (`LanePort.fresh`, `LanePort.restart`). -/
def State.openResync (s : State) : State :=
  if s.settings.resyncWindow = 0 then s
  else ({ s with resyncOpened := some s.now }).sendTruck (OutTelegram.resync s.settings.resyncWindow)

/-! ## Power-on (R165) -/

/-- A store in progress is interrupted: the settings store is left incomplete (R162). -/
def State.interruptStore (s : State) : State :=
  match s.storeJob with
  | some _ => { s with storeJob := none, storeCell := .failing }
  | none => s

/-- MAINT is sampled, and the lock cell is cleared if it is high (R163, R165). -/
def State.sampleMaint (s : State) (maintHigh : Bool) : State :=
  { s with pins := { s.pins with maintHigh := maintHigh }, lock := s.lock && !maintHigh }

/-- The settings in force after a load of the settings store: what it holds, or the factory defaults (R165). -/
def StoreCell.settings : StoreCell → Settings
  | .holding image => image.settings
  | .failing => Settings.default

/-- The roster in force after a load of the settings store: what it holds, or an empty one (R165). -/
def StoreCell.roster : StoreCell → List Enrolment
  | .holding image => image.roster
  | .failing => []

/-- Every Lane Port right after a power-on (R157). -/
def State.freshLanes (s : State) : State :=
  { s with
    lanes := Vector.ofFn fun l => LanePort.fresh s.now s.settings.lanes[l].lineRate
    degraded := false }

/-- STORE_INVALID is raised where the store failed its check, and its EVENT sent under the loaded masks (R165, R167). -/
def State.reportStore (s : State) : State :=
  match s.storeCell with
  | .failing => State.flushEvents s (s.raise .storeInvalid .none)
  | .holding _ => s

/-- A power-on of the part: MAINT, the settings store, and every block (R165). -/
def State.powerOnReset (s : State) (maintHigh : Bool) : State :=
  let s1 := s.interruptStore.sampleMaint maintHigh
  let s2 := { s1 with settings := s1.storeCell.settings }
  ((s2.clearBlocks s1.storeCell.roster).freshLanes.openResync).reportStore

/-- POWER_ON: power is applied (R165). -/
def execPowerOn (maintHigh : Bool) (s : State) : Host.Outcome State Fault Refusal :=
  .next (State.powerOnReset { s with pins := { s.pins with powered := true } } maintHigh)

/-- POWER_LOSS: the part stops, and a store in progress is interrupted (R162). -/
def execPowerLoss (s : State) : Host.Outcome State Fault Refusal :=
  .next { s.interruptStore with pins := { s.pins with powered := false } }

/-- RESET_ASSERT: the RESET pin holds the part in reset and interrupts a store in progress (R162). -/
def execResetAssert (s : State) : Host.Outcome State Fault Refusal :=
  .next { s.interruptStore with pins := { s.pins with resetLow := true } }

/-- RESET_RELEASE: the release of a RESET pin that is low acts as a power-on of a part that has power (R163, R165).
DESIGN CHOICE (notes/assumptions/29.md). -/
def execResetRelease (maintHigh : Bool) (s : State) : Host.Outcome State Fault Refusal :=
  .next (
    if s.pins.resetLow then
      let s1 := { s with pins := { s.pins with resetLow := false } }
      if s.pins.powered then s1.powerOnReset maintHigh else s1
    else s)

/-! ## RESTART (R164) -/

/-- A Lane Port at a RESTART: its state, silence timer, line rate and a telegram in transmission are kept; its queues, partial
frame and counts are not (R157). -/
def LanePort.restart (p : LanePort) : LanePort :=
  ({ p with rx := [], partialFrame := [], counts := LaneCounts.zero, resyncRepeated := false }).dropTx

/-- RESTART: one event, answered ACCEPTED as the first telegram in the emptied SUPERVISORY transmit queue (R164). -/
def State.restart (s : State) : State :=
  let s1 := s.clearBlocks (s.roster.map fun r => { truck := r.id, cls := r.cls })
  let s2 := { s1 with lanes := s1.lanes.map LanePort.restart }
  ({ s2 with degraded := s2.degradedCondition }.reply .accepted typeRestart).openResync

/-- RESTART (R164). -/
def execRestart (s : State) : Host.Outcome State Fault Refusal := superCommand .restart (fun _ _ s => s.restart) s

/-! ## RESYNC_WINDOW_CLOSE and REFRESH_TIMER_EXPIRY -/

/-- Has the resync window setting passed since the window opened (R50)? -/
def State.resyncOver (s : State) : Bool :=
  match s.resyncOpened with
  | some t => elapsed t s.settings.resyncWindow s.now
  | none => false

/-- RESYNC_WINDOW_CLOSE: the window closes; nothing else changes (R50). -/
def execResyncWindowClose (s : State) : Host.Outcome State Fault Refusal :=
  whileRunning s fun s => if s.resyncOver then { s with resyncOpened := none } else s

/-- Has the refresh interval passed since the refresh timer's start (R61)? -/
def State.refreshDue (s : State) : Bool := elapsed s.refreshStart s.settings.refreshInterval s.now

/-- REFRESH_TIMER_EXPIRY: the timer restarts, and a pass is called for on every LIVE section, each an event of its own
(R61). -/
def execRefreshTimerExpiry (s : State) : Host.Outcome State Fault Refusal :=
  whileRunning s fun s =>
    if s.refreshDue then allSections.foldl State.callPass { s with refreshStart := s.now } else s

end Sys2Proof.Machine
end

