-- ==== Sys2Proof/Machine/Dispatch.lean ====
section
/-! DEFINITION. The one dispatch of the HT-640: each command of the opcode table to its meaning. -/

namespace Sys2Proof.Machine

def exec (i : Instr) (s : State) : Host.Outcome State Fault Refusal :=
  match i with
  | .powerOn maintHigh => Sys2Proof.Machine.execPowerOn maintHigh s
  | .powerLoss => Sys2Proof.Machine.execPowerLoss s
  | .resetAssert => Sys2Proof.Machine.execResetAssert s
  | .resetRelease maintHigh => Sys2Proof.Machine.execResetRelease maintHigh s
  | .gapInputEdge gap high => Sys2Proof.Machine.execGapInputEdge gap high s
  | .frame lane octets => Sys2Proof.Machine.execFrame lane octets s
  | .frameTimeout lane => Sys2Proof.Machine.execFrameTimeout lane s
  | .transmitStart lane => Sys2Proof.Machine.execTransmitStart lane s
  | .transmitEnd lane => Sys2Proof.Machine.execTransmitEnd lane s
  | .linkBeacon lane status => Sys2Proof.Machine.execLinkBeacon lane status s
  | .truckAdmit lane src sectionNo demand flags => Sys2Proof.Machine.execTruckAdmit lane src sectionNo demand flags s
  | .truckDemand lane src demand flags => Sys2Proof.Machine.execTruckDemand lane src demand flags s
  | .truckApproach lane src breakNo => Sys2Proof.Machine.execTruckApproach lane src breakNo s
  | .truckPassed lane src breakNo => Sys2Proof.Machine.execTruckPassed lane src breakNo s
  | .truckLowered lane src => Sys2Proof.Machine.execTruckLowered lane src s
  | .feederReport feeder breaker capacity current volts => Sys2Proof.Machine.execFeederReport feeder breaker capacity current volts s
  | .configOpen identity => Sys2Proof.Machine.execConfigOpen identity s
  | .configClose => Sys2Proof.Machine.execConfigClose s
  | .setItem item members value => Sys2Proof.Machine.execSetItem item members value s
  | .getItem item members => Sys2Proof.Machine.execGetItem item members s
  | .setMode members mode => Sys2Proof.Machine.execSetMode members mode s
  | .enrol truck classNo => Sys2Proof.Machine.execEnrol truck classNo s
  | .unenrol truck => Sys2Proof.Machine.execUnenrol truck s
  | .forceRelease truck => Sys2Proof.Machine.execForceRelease truck s
  | .readTable members => Sys2Proof.Machine.execReadTable members s
  | .clearEvents members => Sys2Proof.Machine.execClearEvents members s
  | .store => Sys2Proof.Machine.execStore s
  | .storeCompletion => Sys2Proof.Machine.execStoreCompletion s
  | .commissionLock => Sys2Proof.Machine.execCommissionLock s
  | .restart => Sys2Proof.Machine.execRestart s
  | .laneSilenceExpiry lane => Sys2Proof.Machine.execLaneSilenceExpiry lane s
  | .pairingWindowEnd truck => Sys2Proof.Machine.execPairingWindowEnd truck s
  | .demandIntervalEnd truck => Sys2Proof.Machine.execDemandIntervalEnd truck s
  | .boostExpiry truck => Sys2Proof.Machine.execBoostExpiry truck s
  | .cooldownEnd truck => Sys2Proof.Machine.execCooldownEnd truck s
  | .silenceLimitExpiry truck => Sys2Proof.Machine.execSilenceLimitExpiry truck s
  | .abandonment truck => Sys2Proof.Machine.execAbandonment truck s
  | .resyncWindowClose => Sys2Proof.Machine.execResyncWindowClose s
  | .refreshTimerExpiry => Sys2Proof.Machine.execRefreshTimerExpiry s
  | .allocationPass sec => Sys2Proof.Machine.execAllocationPass sec s
  | .rampStep sec => Sys2Proof.Machine.execRampStep sec s
  | .clearance brk truck => Sys2Proof.Machine.execClearance brk truck s
  | .gapTimeout brk truck => Sys2Proof.Machine.execGapTimeout brk truck s
  | .feederHoldExpiry => Sys2Proof.Machine.execFeederHoldExpiry s
  | .restoreTurn sec => Sys2Proof.Machine.execRestoreTurn sec s
  | .restoreLapse sec => Sys2Proof.Machine.execRestoreLapse sec s
  | .windowTimerExpiry => Sys2Proof.Machine.execWindowTimerExpiry s

end Sys2Proof.Machine
end

