-- ==== Sys2Proof/Machine/Idle.lean ====
section
/-! DEFINITION. What the part does of its own accord when no command waits: the telegrams at the heads of its receive queues
and the timers that have come due, each as the command of the opcode table that it is; and, when nothing is due, the next
millisecond. DESIGN CHOICE (notes/assumptions/2.md). -/

namespace Sys2Proof.Machine

/-- The command that the telegram at the head of a lane's receive queue is (R147). -/
def RxEntry.command (l : LaneId) (e : RxEntry) : Instr :=
  match e.telegram with
  | .truckAdmit sectionNo demand flags => .truckAdmit l e.src sectionNo demand flags
  | .truckDemand demand flags => .truckDemand l e.src demand flags
  | .truckApproach breakNo => .truckApproach l e.src breakNo
  | .truckPassed breakNo => .truckPassed l e.src breakNo
  | .truckLowered => .truckLowered l e.src
  | .linkBeacon status => .linkBeacon l status
  | .feederReport feeder breaker capacity current volts => .feederReport feeder breaker capacity current volts
  | .configOpen identity => .configOpen identity
  | .configClose => .configClose
  | .setItem item members value => .setItem item members value
  | .getItem item members => .getItem item members
  | .setMode members mode => .setMode members mode
  | .enrol truck classNo => .enrol truck classNo
  | .unenrol truck => .unenrol truck
  | .forceRelease truck => .forceRelease truck
  | .readTable members => .readTable members
  | .clearEvents members => .clearEvents members
  | .store => .store
  | .commissionLock => .commissionLock
  | .restart => .restart

/-- Has the transmission of a lane run its time (R149)? -/
def State.transmitOver (s : State) (l : LaneId) : Bool :=
  match s.lanes[l].sending with
  | some t => elapsed t.started (Config.transmitTime s.lanes[l].rate t.octets.length) s.now
  | none => false

/-- A command if it is due. -/
def dueIf (c : Bool) (i : Instr) : List Instr := if c then [i] else []

/-- What is due on a lane (R144, R147 to R149). -/
def State.dueOnLane (s : State) (l : LaneId) : List Instr :=
  (s.lanes[l].rx.head?.map (RxEntry.command l)).toList
    ++ dueIf (s.laneSilenceDue l) (.laneSilenceExpiry l)
    ++ dueIf (s.frameTimeoutDue l) (.frameTimeout l)
    ++ dueIf (s.transmitReady l) (.transmitStart l)
    ++ dueIf (s.transmitOver l) (.transmitEnd l)

/-- Has the pairing window of the copy that a truck's slot holds ended (R153)? -/
def State.slotOver (s : State) (r : Truck) : Bool :=
  match r.slot with
  | some c => s.copyOver c
  | none => false

/-- What is due for a truck (R31, R33, R34, R36, R153). -/
def State.dueOfTruck (s : State) (r : Truck) : List Instr :=
  dueIf (s.slotOver r) (.pairingWindowEnd r.id)
    ++ dueIf (s.demandDue r) (.demandIntervalEnd r.id)
    ++ dueIf (s.boostOver r) (.boostExpiry r.id)
    ++ dueIf (s.cooldownOver r) (.cooldownEnd r.id)
    ++ dueIf (s.silenceDue r) (.silenceLimitExpiry r.id)
    ++ dueIf (s.abandonDue r) (.abandonment r.id)

/-- What is due at a section (R85, R134, R135, R160). -/
def State.dueAtSection (s : State) (k : SectionId) : List Instr :=
  dueIf s.sections[k].passPending (.allocationPass k)
    ++ dueIf (s.rampDue k).isSome (.rampStep k)
    ++ dueIf (s.turnDue k) (.restoreTurn k)
    ++ dueIf (s.lapseDue k) (.restoreLapse k)

/-- What is due at a break (R100, R101). -/
def State.dueAtBreak (s : State) (b : BreakId) : List Instr :=
  s.breaks[b].approaches.flatMap fun e =>
    dueIf (s.clearanceDue b e) (.clearance b e.truck) ++ dueIf (s.gapTimeoutDue b e) (.gapTimeout b e.truck)

/-- Has the time of the store in progress run (R162)? -/
def State.storeOver (s : State) : Bool :=
  match s.storeJob with
  | some job => elapsed job.started job.duration s.now
  | none => false

/-- Everything of the part's own that is due now. -/
def State.dueEvents (s : State) : List Instr :=
  allLanes.flatMap s.dueOnLane
    ++ s.roster.flatMap s.dueOfTruck
    ++ allSections.flatMap s.dueAtSection
    ++ allBreaks.flatMap s.dueAtBreak
    ++ dueIf s.resyncOver .resyncWindowClose
    ++ dueIf s.refreshDue .refreshTimerExpiry
    ++ dueIf s.holdDue .feederHoldExpiry
    ++ dueIf s.windowDue .windowTimerExpiry
    ++ dueIf s.storeOver .storeCompletion

/-- A gap input that is read and has no reference level takes the level that stands on its pin (R13). -/
def State.readReference (s : State) (b : BreakId) : State :=
  if s.gapRead b && s.breaks[b].reference.isNone then
    s.onBreak b fun r => { r with reference := some s.pins.gaps[b] }
  else s

/-- One millisecond in which nothing is due: the gap inputs are read, and the timebase moves on. -/
def State.tick (s : State) : State :=
  let s1 := allBreaks.foldl State.readReference s
  { s1 with now := s1.now + 1 }

/-- The part with no command waiting: one of the events that are due becomes the waiting command, which of several being
free; with none due a millisecond passes; without power or in reset nothing happens. -/
def State.idle (s : State) : State :=
  if s.running then
    match s.dueEvents with
    | [] => s.tick
    | e :: rest =>
      { s with
        pending := [(e :: rest).getD (Config.choice s.choices % (rest.length + 1)) e]
        choices := s.choices + 1 }
  else s

end Sys2Proof.Machine
end

