-- ==== Sys2Proof/Safety.lean ====
section
/-! DEFINITION. The laws the part must keep, and the words the claims are stated in: settings in range, the roster law, the
bounds of the buffers and counts, the capacity law, the first law; and when a telegram stands ready to be taken. -/

namespace Sys2Proof.Machine

/-! ## Settings in range (R2, R12, R22, R23, R94, R122, R125, R142, R143 and the part-wide settings of 10.7) -/

/-- Is the value in a range and on the quantum of 25 A? -/
def ampsIn (low high v : Nat) : Prop := low ≤ v ∧ v ≤ high ∧ v % 25 = 0

/-- A section record is in range, its cut voltage at least 25 V below its knee (R2, R88, R122, R125). -/
def SectionSettings.inRange (c : SectionSettings) : Prop :=
  ampsIn 0 12000 c.rating ∧ ampsIn 0 3000 c.margin ∧ 25 ≤ c.knee ∧ c.knee ≤ 4000 ∧ c.cut + 25 ≤ c.knee
    ∧ ampsIn 0 1000 c.overdrawTolerance ∧ c.overdrawPersistence ≤ 10000 ∧ c.increaseSpacing ≤ 5000

/-- A break record is in range (R12, R94). -/
def BreakSettings.inRange (c : BreakSettings) : Prop :=
  c.deadTime ≤ 2000 ∧ ampsIn 0 200 c.gapCurrent ∧ 100 ≤ c.settleTime ∧ c.settleTime ≤ 2000
    ∧ 2000 ≤ c.gapTimeout ∧ c.gapTimeout ≤ 60000 ∧ c.evidenceWindow ≤ 5000 ∧ c.lateWindow ≤ 10000

/-- A class record is in range, with floor ≤ fixed grant ≤ ceiling ≤ boost ceiling (R22, R23). -/
def ClassRecord.inRange (c : ClassRecord) : Prop :=
  ampsIn 25 2000 c.floor ∧ ampsIn c.floor c.ceiling c.fixedGrant ∧ ampsIn c.floor c.boostCeiling c.ceiling
    ∧ ampsIn c.ceiling 4000 c.boostCeiling ∧ 1 ≤ c.weight ∧ c.weight ≤ 8 ∧ c.rampProfile ≤ 7
    ∧ c.boostLimit ≤ 120 ∧ c.boostCooldown ≤ 600

/-- A lane's settings are in range, its line rate one of the four (R142, R143). -/
def LaneSettings.inRange (c : LaneSettings) : Prop :=
  (c.lineRate = 19200 ∨ c.lineRate = 38400 ∨ c.lineRate = 115200 ∨ c.lineRate = 230400)
    ∧ 200 ≤ c.silenceLimit ∧ c.silenceLimit ≤ 30000

/-- Each role other than UNUSED is held by at most one lane (R142). -/
def Settings.rolesUnique (c : Settings) : Prop :=
  ∀ l m : LaneId, c.lanes[l].role = c.lanes[m].role → l = m ∨ c.lanes[l].role = .unused

/-- Every setting is in range, and both subscription masks name kinds 0 to 19 only (R167). -/
def Settings.inRange (c : Settings) : Prop :=
  (1 ≤ c.sectionCount ∧ c.sectionCount ≤ 6) ∧ c.demandInterval ≤ 5000
    ∧ (500 ≤ c.silenceLimit ∧ c.silenceLimit ≤ 10000) ∧ (5000 ≤ c.abandonLimit ∧ c.abandonLimit ≤ 120000)
    ∧ (100 ≤ c.refreshInterval ∧ c.refreshInterval ≤ 5000) ∧ c.resyncWindow ≤ 30000 ∧ c.feederHoldTime ≤ 60000
    ∧ c.fallbackPercentage ≤ 100 ∧ c.restoreWindow ≤ 120000
    ∧ (20 ≤ c.pairingWindow ∧ c.pairingWindow ≤ 1000)
    ∧ c.supervisoryMask &&& 0xFFFFF#24 = c.supervisoryMask ∧ c.feederMask &&& 0xFFFFF#24 = c.feederMask
    ∧ (∀ k : SectionId, c.sections[k].inRange) ∧ (∀ b : BreakId, c.breaks[b].inRange)
    ∧ (∀ n : ClassId, c.classes[n].inRange) ∧ (∀ l : LaneId, c.lanes[l].inRange) ∧ c.rolesUnique

/-- The settings in force, those the settings store holds and those a store in progress writes are all in range. -/
def State.settingsLaw (s : State) : Prop :=
  s.settings.inRange
    ∧ (match s.storeCell with
      | .holding image => image.settings.inRange
      | .failing => True)
    ∧ (match s.storeJob with
      | some job => job.image.settings.inRange
      | none => True)

/-! ## The roster law (R17, the eighth law) -/

/-- At most 32 enrolments, each of a truck's address, none twice (R17). -/
def enrolmentsOk (es : List TruckId) : Prop := es.length ≤ 32 ∧ es.Nodup ∧ ∀ t ∈ es, isTruckAddress t = true

/-- The roster, and the rosters of the settings store and of a store in progress, obey the eighth law (R17). -/
def State.rosterLaw (s : State) : Prop :=
  enrolmentsOk (s.roster.map fun r => r.id)
    ∧ (match s.storeCell with
      | .holding image => enrolmentsOk (image.roster.map fun e => e.truck)
      | .failing => True)
    ∧ (match s.storeJob with
      | some job => enrolmentsOk (job.image.roster.map fun e => e.truck)
      | none => True)

/-! ## Buffers and counts (R40, R147, R149, R151, R166) -/

/-- Every count of a lane is at most 65,535 (R151). -/
def LaneCounts.inRange (c : LaneCounts) : Prop :=
  c.accepted ≤ 65535 ∧ c.checkFailures ≤ 65535 ∧ c.corrected ≤ 65535 ∧ c.foreignAddress ≤ 65535
    ∧ c.receiveOverflows ≤ 65535 ∧ c.transmitDrops ≤ 65535 ∧ c.unpaired ≤ 65535

/-- A lane holds at most 8 received telegrams and 16 telegrams to send (R147, R149). -/
def LanePort.inBounds (p : LanePort) : Prop := p.rx.length ≤ 8 ∧ p.tx.length ≤ 16 ∧ p.counts.inRange

/-- An event record's count is at most 255, and its flag is set exactly when it has counted (R166). -/
def EventRecord.inBounds (r : EventRecord) : Prop := r.count ≤ 255 ∧ (r.flag = true ↔ 0 < r.count)

/-- Every admission queue holds at most 8 trucks, and every lane and event record is in its bounds. -/
def State.boundsLaw (s : State) : Prop :=
  (∀ k : SectionId, s.queues[k].length ≤ 8) ∧ (∀ l : LaneId, s.lanes[l].inBounds)
    ∧ (∀ e : Fin 20, s.events[e].inBounds) ∧ (∀ e : Fin 20, s.lastCleared[e].inBounds)

/-! ## Capacity (R3, R6) and the first law -/

/-- In every section A is the effective capacity less the margin; in one that is not LIVE both are 0, and so is the spare
(R3, R6, R60). -/
abbrev State.capacityLaw (s : State) : Prop :=
  ∀ k : SectionId,
    s.sections[k].available = s.feeders[k].effective - s.settings.sections[k].margin
      ∧ (s.sections[k].state ≠ .live → s.feeders[k].effective = 0 ∧ s.sections[k].spare = 0)

/-- The first law: the issued grants of a section's holders and the reservations into it fit under A (R6). -/
def State.firstLaw (s : State) (k : SectionId) : Prop :=
  issuedSum s.sections[k].holders + s.reservedInto k ≤ s.sections[k].available

/-- No truck stands twice on a section's holder list and admission queue taken together. -/
abbrev State.distinctAt (s : State) (k : SectionId) : Prop :=
  ((s.sections[k].holders.map fun h => h.truck) ++ (s.queues[k].map fun e => e.truck)).Nodup

/-- A truck stands in no admission queue but, perhaps, that of one section. -/
abbrev State.queuedOnlyAt (s : State) (t : TruckId) (k : SectionId) : Prop :=
  ∀ j : SectionId, (∃ e ∈ s.queues[j], e.truck = t) → j = k

/-! ## Service and pairing (R3, R154) -/

/-- A section is in service exactly when it is enabled and numbered below the section count (R3). -/
abbrev State.serviceLaw (s : State) : Prop :=
  ∀ k : SectionId, s.inService k = (decide (k.val < s.settings.sectionCount) && s.settings.sections[k].enabled)

/-- A lane holds the role and is LIVE. -/
abbrev State.liveIn (s : State) (r : Role) : Prop := ∃ l : LaneId, s.laneOfRole r = some l ∧ s.lanes[l].state = .live

/-- Pairing is degraded exactly in BOTH mode with one radio lane LIVE and the other not (R154); a radio role that no lane
holds counts as not LIVE. DEDUCED (notes/assumptions/11.md). -/
abbrev State.degradedLaw (s : State) : Prop :=
  s.degraded = true ↔
    s.settings.pairingMode = .both
      ∧ (s.liveIn .radioA ∧ ¬ s.liveIn .radioB ∨ ¬ s.liveIn .radioA ∧ s.liveIn .radioB)

/-! ## Where the trucks stand (R17, R38, R56, R79, R80, R95) -/

/-- Has the truck a record in this section, in a state that `ok` accepts? -/
def State.standsAt (s : State) (t : TruckId) (k : SectionId) (ok : TruckState → Bool) : Bool :=
  match s.truck? t with
  | some r => ok r.state && r.sec == some k
  | none => false

/-- The trucks of each admission queue, holder list and approach queue are distinct, and the record of each names the section
of that list and the state that belongs to it: QUEUED in a queue, a holder's state on a holder list, the entry's state at the
break above. So no truck stands in two queues, on two holder lists or at two breaks (R17, R38, R95). -/
abbrev State.placesLaw (s : State) : Prop :=
  ∀ k : SectionId,
    (∀ e ∈ s.queues[k], s.standsAt e.truck k (fun x => x == .queued) = true)
      ∧ (∀ h ∈ s.sections[k].holders, s.standsAt h.truck k TruckState.onHolderList = true)
      ∧ (∀ e ∈ s.breaks[k].approaches,
          s.standsAt e.truck k (fun x => x == if e.isCleared then .cleared else .approaching) = true)
      ∧ (s.queues[k].map fun e => e.truck).Nodup
      ∧ (s.sections[k].holders.map fun h => h.truck).Nodup
      ∧ (s.breaks[k].approaches.map fun e => e.truck).Nodup

/-- The holders of a section and the HANDOVER entries into it take at most its six slots (R56). -/
abbrev State.slotsLaw (s : State) : Prop :=
  ∀ k : SectionId, s.sections[k].holders.length + (s.handoversInto k).length ≤ 6

/-- Every queue holds its SHED entries first, then its RAISED ones, then its NORMAL ones (R38). -/
abbrev State.rankLaw (s : State) : Prop :=
  ∀ k : SectionId, (s.queues[k].map fun e => e.rank.code).Pairwise (fun a b => a ≤ b)

/-- No holder's issued grant exceeds its target; each ramp entry is that of one ordinary holder below its target, no truck has
two, and a section that is not LIVE has none (R79, R80). -/
abbrev State.rampLaw (s : State) : Prop :=
  ∀ k : SectionId,
    (∀ h ∈ s.sections[k].holders, h.issued ≤ h.target)
      ∧ (∀ e ∈ s.sections[k].ramp, s.isOrdinary e.truck = true
          ∧ ∃ h ∈ s.sections[k].holders, h.truck = e.truck ∧ h.target = e.target ∧ h.issued < e.target)
      ∧ (s.sections[k].ramp.map fun e => e.truck).Nodup
      ∧ (s.isLive k = false → s.sections[k].ramp = [])

/-- In every LIVE section with no pass pending the targets and the reservations fit under A; with issued grants at most their
targets, so do the issued grants and the reservations, which is the first law (R6, R75). -/
abbrev State.targetsFit (s : State) : Prop :=
  ∀ k : SectionId, s.isLive k = true → s.sections[k].passPending = false →
    targetSum s.sections[k].holders + s.reservedInto k ≤ s.sections[k].available

/-! ## Positions told (R41) -/

/-- Every queued truck has been told the position it stands at. -/
abbrev State.positionsTold (s : State) : Prop := ∀ k : SectionId, staleFrom 1 s.queues[k] = []

/-! ## Frames and lanes (R142, R144 to R147, R155) -/

/-- The port of a lane in use hunts, and every queued truck has been told its position; the octets are those of one whole
frame (R144). -/
abbrev State.frameArrives (s : State) (l : LaneId) (octets : List Octet) : Prop :=
  s.running = true ∧ s.positionsTold ∧ s.settings.lanes[l].role ≠ .unused ∧ s.lanes[l].partialFrame = []
    ∧ octets.head? = some 0xC5#8 ∧ frameComplete octets = true ∧ octets.length ≤ 208

/-- The frame is sound: its CONTROL octet is `control`, after a repair if `repaired`, and its CHECK agrees (R145). -/
abbrev soundFrame (octets : List Octet) (f : Frame) (control : Octet) (repaired : Bool) : Prop :=
  frameOf octets = some f ∧ judgeControl f.control = some (control, repaired)
    ∧ check (f.covered control) = f.checkOctets

/-- The octets arrive on a lane, none with a framing error. -/
def frameOn (l : LaneId) (octets : List Octet) : Instr :=
  .frame l (octets.map fun o => { value := o, framingError := false })

/-- A port that has heard a sound frame: LIVE, its silence timer restarted, a repair counted (R145, R146). -/
def LanePort.heard (now : Time) (repaired : Bool) (p : LanePort) : LanePort :=
  { p with
    state := .live
    silenceStart := now
    lastOctet := now
    counts := if repaired then p.counts.bumpCorrected else p.counts }

/-- Does the lane carry the telegrams to trucks: it holds a radio role of the pairing mode and is not QUIET (R155)? -/
def State.carriesLane (s : State) (l : LaneId) : Bool :=
  s.carriesTrucks s.settings.lanes[l].role && s.laneOfRole s.settings.lanes[l].role == some l
    && s.lanes[l].state != .quiet

/-! ## Telegrams ready to be taken (R147, R152 to R154) -/

/-- Is the telegram one of the five that trucks send (10.4)? -/
def Inbound.isTruck : Inbound → Bool
  | .truckAdmit .. => true
  | .truckDemand .. => true
  | .truckApproach _ => true
  | .truckPassed _ => true
  | .truckLowered => true
  | _ => false

/-- The part runs, and a telegram stands at the head of a lane's receive queue. -/
abbrev State.atHead (s : State) (l : LaneId) (src : Octet) (m : Inbound) : Prop :=
  s.running = true ∧ s.lanes[l].rx.head? = some { src := src, telegram := m }

/-- The head of a lane's receive queue taken. -/
def State.popRx (s : State) (l : LaneId) : State := s.onLane l fun p => { p with rx := p.rx.tail }

/-- A supervisory telegram stands at the head of the SUPERVISORY lane, and every queued truck has been told its position. -/
abbrev State.superTakes (s : State) (l : LaneId) (m : Inbound) : Prop :=
  s.laneOfRole .supervisory = some l ∧ s.atHead l 0xF0 m ∧ s.positionsTold

/-- The supervisory telegram taken, which restarts the timer of an open window (R158). -/
def State.superTaken (s : State) (l : LaneId) : State := (s.popRx l).touchWindow

/-- Does the Radio Pairing Unit act on this telegram of a truck, arriving now on a lane (R152 to R154)? -/
def State.actsOn (s : State) (l : LaneId) (t : TruckId) (m : Inbound) : Bool :=
  let slot := (s.truck? t).bind fun r => r.slot
  match s.settings.pairingMode with
  | .either =>
    match slot with
    | some c => !(c.telegram == m && c.lane != l && decide (s.now < c.arrival + c.window))
    | none => true
  | .both =>
    s.degraded ||
      match slot with
      | some c => decide (s.now ≤ c.arrival + c.window) && c.telegram == m && c.lane != l
      | none => false
  | .aOnly => s.settings.lanes[l].role == .radioA
  | .bOnly => s.settings.lanes[l].role == .radioB

/-- A truck telegram stands at the head of a lane, the Radio Pairing Unit acts on it, and the truck has a record and is not
silent. -/
abbrev State.truckActs (s : State) (l : LaneId) (t : TruckId) (m : Inbound) (r : Truck) : Prop :=
  s.atHead l t m ∧ s.actsOn l t m = true ∧ s.truck? t = some r ∧ r.silent = false

/-! ## The checks of a SET (R159) -/

/-- The answer of the first check that a SET fails, if it fails one (R159). -/
def State.setAnswer (s : State) (item : Octet) (members : MemberSet) : Option ReplyCode :=
  match itemOfCode item.toNat with
  | none => some .unknownItem
  | some i =>
    if i.isReadOnly then some .unknownItem
    else if s.windowTimer = none then some .notOpen
    else if s.storeJob ≠ none then some .busy
    else if i.isCommissioning ∧ s.lock then some .locked
    else if i.members members = [] then some .emptySet
    else none

/-! ## What a SET writes (R1, R2, R4, R5, R12, R22, R23, R31, R34, R36, R50, R61, R88, R94, R122, R125, R152, R156, R167) -/

/-- A section's settings after a SET of one of its items; `v` is the value written (R2, R88, R122, R125). -/
def SectionSettings.afterSet (c : SectionSettings) (v : Nat) : SectionItem → SectionSettings
  | .enabled => { c with enabled := v != 0 }
  | .rating => { c with rating := min v 12000 / 25 * 25 }
  | .margin => { c with margin := min v 3000 / 25 * 25 }
  | .knee => { c with knee := max (c.cut + 25) (max 25 (min v 4000)) }
  | .cut => { c with cut := min (c.knee - 25) (min v 3975) }
  | .overdrawTolerance => { c with overdrawTolerance := min v 1000 / 25 * 25 }
  | .overdrawPersistence => { c with overdrawPersistence := min v 10000 }
  | .increaseSpacing => { c with increaseSpacing := min v 5000 }
  | .mode => c

/-- A break's settings after a SET of one of its items (R12, R94); a code above the highest is the highest (R170). -/
def BreakSettings.afterSet (c : BreakSettings) (v : Nat) : BreakItem → BreakSettings
  | .gapEnabled => { c with gapEnabled := v != 0 }
  | .edgeSelect => { c with edgeSelect := if v = 0 then .rising else if v = 1 then .falling else .both }
  | .deadTime => { c with deadTime := min v 2000 }
  | .evidenceMode => { c with evidenceMode := if v = 0 then .sensor else if v = 1 then .telegram else .either }
  | .gapCurrent => { c with gapCurrent := min v 200 / 25 * 25 }
  | .settleTime => { c with settleTime := max 100 (min v 2000) }
  | .gapTimeout => { c with gapTimeout := max 2000 (min v 60000) }
  | .evidenceWindow => { c with evidenceWindow := min v 5000 }
  | .lateWindow => { c with lateWindow := min v 10000 }

/-- The settings after a SET of an item held once for the part (R1, R31, R34, R36, R50, R61, R122, R152, R156); a mask keeps
the kinds 0 to 19 of its low 24 bits (R167). DEDUCED (notes/assumptions/39.md). -/
def Settings.afterSet (c : Settings) (v : Nat) : PartItem → Settings
  | .sectionCount => { c with sectionCount := max 1 (min v 6) }
  | .demandInterval => { c with demandInterval := min v 5000 }
  | .silenceLimit => { c with silenceLimit := max 500 (min v 10000) }
  | .abandonLimit => { c with abandonLimit := max 5000 (min v 120000) }
  | .refreshInterval => { c with refreshInterval := max 100 (min v 5000) }
  | .resyncWindow => { c with resyncWindow := min v 30000 }
  | .feederHoldTime => { c with feederHoldTime := min v 60000 }
  | .fallbackPercentage => { c with fallbackPercentage := min v 100 }
  | .restoreWindow => { c with restoreWindow := min v 120000 }
  | .pairingMode =>
    { c with pairingMode := if v = 0 then .either else if v = 1 then .both else if v = 2 then .aOnly else .bOnly }
  | .pairingWindow => { c with pairingWindow := max 20 (min v 1000) }
  | .supervisoryMask => { c with supervisoryMask := BitVec.ofNat 24 v &&& 0xFFFFF#24 }
  | .feederMask => { c with feederMask := BitVec.ofNat 24 v &&& 0xFFFFF#24 }
  | .cabinetIdentity => c
  | .lockCell => c

/-- The REPLY to a SET: to the supervisory system, its Y bit set (R149, R160). -/
def setReply (code : ReplyCode) (item : Octet) (taken : ReplyValue) : OutTelegram :=
  { dest := 0xF0, urgent := false, answer := true, payload := .reply code 0x52 item (some taken) }

/-- A class record after a SET of one of its fields, the order floor ≤ fixed grant ≤ ceiling ≤ boost ceiling kept (R22,
R23). -/
def ClassRecord.afterSet (c : ClassRecord) (v : Nat) : ClassItem → ClassRecord
  | .floor =>
    { c with
      floor := min c.ceiling (max 25 (min v 2000) / 25 * 25)
      fixedGrant := max (min c.ceiling (max 25 (min v 2000) / 25 * 25)) c.fixedGrant }
  | .ceiling =>
    { c with
      ceiling := min c.boostCeiling (max c.floor (min v 4000 / 25 * 25))
      fixedGrant := min (min c.boostCeiling (max c.floor (min v 4000 / 25 * 25))) c.fixedGrant }
  | .boostCeiling => { c with boostCeiling := max c.ceiling (min v 4000 / 25 * 25) }
  | .weight => { c with weight := max 1 (min v 8) }
  | .fixedGrant => { c with fixedGrant := max c.floor (min (v / 25 * 25) c.ceiling) }
  | .rampProfile => { c with rampProfile := min v 7 }
  | .boostLimit => { c with boostLimit := min v 120 }
  | .boostCooldown => { c with boostCooldown := min v 600 }

/-- The line rate that a written value gives: the highest listed rate not above it, or 19,200 (R143). -/
abbrev isRateFor (v rate : Nat) : Prop :=
  rate ∈ [19200, 38400, 115200, 230400] ∧ (rate ≤ v ∨ rate = 19200)
    ∧ ∀ q ∈ [19200, 38400, 115200, 230400], q ≤ v → q ≤ rate

/-- What a change of the section count or of an enabled field does to the sections: one in service is enabled and numbered
below the count; one that has left service holds and queues nothing, its break has no entry and its trucks are IDLE; one that
has entered service is UNREPORTED with nothing on it; one that stays in service keeps its holders and its queue (R1, R3 to
R5). -/
abbrev State.serviceMoves (s t : State) : Prop :=
  ∀ k : SectionId,
    t.inService k = (decide (k.val < t.settings.sectionCount) && t.settings.sections[k].enabled)
      ∧ (s.inService k = true → t.inService k = false →
          t.sections[k].holders = [] ∧ t.sections[k].ramp = [] ∧ t.queues[k] = [] ∧ t.breaks[k].approaches = []
            ∧ t.feeders[k] = FeederRecord.empty
            ∧ (∀ h ∈ s.sections[k].holders, t.truckState h.truck = .idle)
            ∧ ∀ e ∈ s.queues[k], t.truckState e.truck = .idle)
      ∧ (s.inService k = false → t.inService k = true →
          t.sections[k].state = .unreported ∧ t.sections[k].holders = [] ∧ t.queues[k] = []
            ∧ t.feeders[k] = FeederRecord.empty)
      ∧ (s.inService k = true → t.inService k = true →
          t.sections[k].holders = s.sections[k].holders ∧ t.queues[k] = s.queues[k])

end Sys2Proof.Machine

namespace Sys2Proof

/-! ## Commands that may do what no other may -/

/-- Is the command a power-on or a release of the RESET pin with MAINT high (R163)? -/
def Instr.clearsLock : Instr → Bool
  | .powerOn true => true
  | .resetRelease true => true
  | _ => false

/-- Is the command a FEEDER_REPORT with the breaker CLOSED that names this section (R126)? -/
def Instr.closesBreaker (k : SectionId) : Instr → Bool
  | .feederReport feeder .closed _ _ _ => feeder.toNat == k.val
  | _ => false

/-- Is the command one that clears event records: CLEAR_EVENTS, RESTART, a power-on or a release of the RESET pin (R166,
R167)? -/
def Instr.clearsEvents : Instr → Bool
  | .clearEvents _ => true
  | .restart => true
  | .powerOn _ => true
  | .resetRelease _ => true
  | _ => false

/-- Is the command one that starts the part afresh: RESTART, a power-on or a release of the RESET pin (R168)? -/
def Instr.isReset : Instr → Bool
  | .restart => true
  | .powerOn _ => true
  | .resetRelease _ => true
  | _ => false

/-- May the command change a setting: SET, SET_MODE, or a reset that loads the settings store (R158, R160, R165)? -/
def Instr.changesSettings : Instr → Bool
  | .setItem .. => true
  | .setMode .. => true
  | .powerOn _ => true
  | .resetRelease _ => true
  | _ => false

/-- Is the command an event at a pin or at the supply (10.8)? -/
def Instr.isPin : Instr → Bool
  | .powerOn _ => true
  | .powerLoss => true
  | .resetAssert => true
  | .resetRelease _ => true
  | .gapInputEdge .. => true
  | _ => false

/-- May the command change the settings store: the completion of a store, or a loss of power or a reset (R162, R165)? -/
def Instr.changesStore : Instr → Bool
  | .storeCompletion => true
  | .powerOn _ => true
  | .powerLoss => true
  | .resetAssert => true
  | .resetRelease _ => true
  | _ => false

/-- Is the command a supervisory telegram (10.4)? -/
def Instr.isSupervisory : Instr → Bool
  | .configOpen _ => true
  | .configClose => true
  | .setItem .. => true
  | .getItem .. => true
  | .setMode .. => true
  | .enrol .. => true
  | .unenrol _ => true
  | .forceRelease _ => true
  | .readTable _ => true
  | .clearEvents _ => true
  | .store => true
  | .commissionLock => true
  | .restart => true
  | _ => false

end Sys2Proof
end

