-- ==== Sys2Proof/Certificates/Slice0/Obligations.lean ====
section
/-! DEFINITION. The statements about the HT-640 that the provers are asked to prove. Each docstring names the rules of spec/ it
rests on; OBLIGATIONS.json lists them with their tiers. -/

open Sys2Proof Sys2Proof.Machine

/-! ## The part as a whole -/

/-- A step takes the command at the front of the queue and runs it with the queue's rest. -/
def Obligations.StepRunsFrontCommand : Prop :=
  ∀ (c : Instr) (rest : List Instr) (s : State),
    step { s with pending := c :: rest } = exec c { s with pending := rest }

/-- With no command waiting and nothing of its own due, a running part lets a millisecond pass, in which nothing changes but
the reference levels of gap inputs that had none; a part without power or in reset does nothing. The model's choice
(notes/assumptions/2.md). -/
def Obligations.IdlePartOnlyTicks : Prop :=
  ∀ s : State, s.pending = [] →
    (s.running = false → step s = .next s)
      ∧ (s.running = true → s.dueEvents = [] →
          ∃ t, step s = .next t ∧ t = { s with now := s.now + 1, breaks := t.breaks }
            ∧ ∀ b : BreakId,
                t.breaks[b] = { s.breaks[b] with reference := t.breaks[b].reference }
                  ∧ (s.breaks[b].reference.isSome = true → t.breaks[b].reference = s.breaks[b].reference))

/-- The state after reset obeys every law that the steps are claimed to keep. -/
def Obligations.ResetObeysTheLaws : Prop :=
  State.reset.settingsLaw ∧ State.reset.rosterLaw ∧ State.reset.boundsLaw ∧ State.reset.capacityLaw
    ∧ State.reset.positionsTold ∧ State.reset.serviceLaw ∧ State.reset.degradedLaw ∧ State.reset.placesLaw
    ∧ State.reset.slotsLaw ∧ State.reset.rankLaw ∧ State.reset.rampLaw ∧ State.reset.targetsFit

/-- A power-on with MAINT low of a part whose settings store fails its check gives the state after reset, the lock cell, the
timebase, the pins, the store's failed contents, the model's own counters and the queue apart (R165; the lock cell, the timebase and the gap
levels of State.reset itself are the model's choice, notes/assumptions/1.md). -/
def Obligations.PowerOnOfUnwrittenPart : Prop :=
  ∀ s : State, s.storeCell = .failing →
    exec (.powerOn false) s = .next
      { State.reset with
        now := s.now
        pins := { s.pins with powered := true, maintHigh := false }
        lock := s.lock
        lanes := State.reset.lanes.map fun p => { p with silenceStart := s.now, lastOctet := s.now }
        resyncOpened := some s.now
        refreshStart := s.now
        choices := s.choices
        storesTaken := s.storesTaken
        pending := s.pending }

/-- What each kind of reset leaves of the supervisory and event state: the configuration window is closed and its timer idle;
a power-on and a release of the RESET pin load the settings and the roster, keep the lock cell unless MAINT is high, and
lose a store in progress; a RESTART keeps the settings, the enrolments, the lock cell and a store in progress; the event
records are clear, STORE_INVALID apart where the store fails its check, and so are the last-cleared copies (R168). -/
def Obligations.ResetsSetSupervisoryState : Prop :=
  (∀ (s : State) (maint : Bool) (c : Instr),
      (c = .powerOn maint ∨ (c = .resetRelease maint ∧ s.pins.resetLow = true ∧ s.pins.powered = true)) →
      ∃ t, exec c s = .next t ∧ t.windowTimer = none ∧ t.storeJob = none
        ∧ t.lock = (s.lock && !maint)
        ∧ t.storeCell = (if s.storeJob = none then s.storeCell else .failing)
        ∧ t.settings = t.storeCell.settings
        ∧ (t.roster.map fun r => ({ truck := r.id, cls := r.cls } : Enrolment)) = t.storeCell.roster
        ∧ (∀ e : EventKind, t.events[e.code] =
            if e = .storeInvalid ∧ t.storeCell = .failing
            then { flag := true, count := 1, subject := .none } else EventRecord.clear)
        ∧ (∀ e : EventKind, t.lastCleared[e.code] = EventRecord.clear))
    ∧ (∀ (s : State) (l : LaneId), s.superTakes l .restart →
      ∃ t, exec .restart s = .next t ∧ t.windowTimer = none ∧ t.storeJob = s.storeJob ∧ t.lock = s.lock
        ∧ t.storeCell = s.storeCell ∧ t.settings = s.settings
        ∧ (t.roster.map fun r => (r.id, r.cls)) = (s.roster.map fun r => (r.id, r.cls))
        ∧ (∀ e : Fin 20, t.events[e] = EventRecord.clear) ∧ (∀ e : Fin 20, t.lastCleared[e] = EventRecord.clear))

/-- A RESTART puts every section in service into UNREPORTED with nothing on it, empties the queues, breaks and feeder records,
makes every truck IDLE at its class floor, and keeps the settings, the lane states, silence timers and transmissions, and the
line rate of a lane where no change of it waits. Every lane's receive queue and partial frame are empty, its counts 0 and its
repeat flag clear; its transmit queue holds nothing but the REPLY on the SUPERVISORY lane and, where the window opens, RESYNC
with the whole window on each lane that carries telegrams to trucks (R16, R37, R50, R51, R54, R78, R93, R121, R141, R157,
R164). That each lane has a repeat flag of its own is the model's reading (notes/assumptions/24.md). -/
def Obligations.RestartClearsTheRamp : Prop :=
  ∀ (s : State) (l : LaneId), s.superTakes l .restart →
    ∃ t, exec .restart s = .next t
      ∧ (∀ k : SectionId, t.sections[k] = resetSection s.settings k ∧ t.queues[k] = []
          ∧ t.feeders[k] = FeederRecord.empty)
      ∧ (∀ b : BreakId, t.breaks[b] = BreakRecord.empty)
      ∧ t.roster = (s.roster.map fun r => Truck.fresh r.id r.cls s.settings.classes[r.cls].floor)
      ∧ t.holdTimer = none ∧ t.refreshStart = s.now ∧ t.now = s.now ∧ t.settings = s.settings
      ∧ t.resyncOpened = (if s.settings.resyncWindow = 0 then none else some s.now)
      ∧ (∀ m : LaneId, t.lanes[m].state = s.lanes[m].state ∧ t.lanes[m].silenceStart = s.lanes[m].silenceStart
          ∧ t.lanes[m].sending = s.lanes[m].sending ∧ t.lanes[m].rx = [] ∧ t.lanes[m].partialFrame = []
          ∧ (s.lanes[m].rateChanges = [] → t.lanes[m].rate = s.lanes[m].rate)
          ∧ t.lanes[m].counts = LaneCounts.zero ∧ t.lanes[m].resyncRepeated = false
          ∧ t.lanes[m].tx =
              (if m = l then
                [{ dest := 0xF0, urgent := false, answer := true, payload := .reply .accepted 0x5C 0 none }]
               else if s.settings.resyncWindow ≠ 0 ∧ s.carriesLane m = true then
                [{ dest := 0xFF, urgent := true, answer := false, payload := .resync s.settings.resyncWindow }]
               else []))

/-- A loss of power and an assertion of the RESET pin stop the part and interrupt a store in progress, which leaves the
settings store failing its check; nothing else changes (R162). -/
def Obligations.PowerLossAndResetInterruptStore : Prop :=
  ∀ s : State,
    exec .powerLoss s = .next
        { s with
          pins := { s.pins with powered := false }
          storeJob := none
          storeCell := if s.storeJob = none then s.storeCell else .failing }
      ∧ exec .resetAssert s = .next
        { s with
          pins := { s.pins with resetLow := true }
          storeJob := none
          storeCell := if s.storeJob = none then s.storeCell else .failing }

/-! ## Frames and lanes -/

/-- The frame of every telegram the part sends, its payload no longer than a frame allows, reads back whole: its fields are
those of the telegram with SRC 0xFE, its CONTROL is sound with the D bit set, and its CHECK agrees. Any one of bits 6 to 0 of
a CONTROL octet flipped on the way is repaired (R144, R145, R149, 10.2). -/
def Obligations.SentFrameReadsBack : Prop :=
  (∀ t : OutTelegram, t.payload.octets.length ≤ 200 →
    frameComplete t.frame = true ∧
      ∃ f, frameOf t.frame = some f ∧ f.dest = t.dest ∧ f.src = 0xFE#8 ∧ f.type = t.payload.type
        ∧ f.payload = t.payload.octets ∧ f.control = controlOctet true t.urgent t.answer
        ∧ judgeControl f.control = some (f.control, false)
        ∧ controlD f.control = true ∧ check (f.covered f.control) = f.checkOctets)
    ∧ ∀ (d u y : Bool) (i : Fin 7),
        judgeControl (controlOctet d u y ^^^ (1#8 <<< i.val)) = some (controlOctet d u y, true)

/-- A telegram offered to a transmit queue replaces the last telegram to its address where both are GRANT or QUEUED, whatever
the queue's length; otherwise it is appended at the tail, or dropped and counted at a queue of 16 (R149, R150). -/
def Obligations.OfferedTelegramReplacesOrQueues : Prop :=
  ∀ (p : LanePort) (t : OutTelegram),
    (∃ front old behind, p.tx = front ++ old :: behind ∧ old.dest = t.dest ∧ (∀ x ∈ behind, x.dest ≠ t.dest)
        ∧ old.replaceable = true ∧ t.replaceable = true
        ∧ p.offer t = { p with tx := front ++ t :: behind })
      ∨ ((∀ front old behind, p.tx = front ++ old :: behind → old.dest = t.dest → (∀ x ∈ behind, x.dest ≠ t.dest) →
            ¬(old.replaceable = true ∧ t.replaceable = true))
          ∧ p.offer t =
            if p.tx.length < 16 then { p with tx := p.tx ++ [t] }
            else { p with counts := p.counts.bumpDrops })

/-- What a whole frame does, on a lane that hunts. Where it passes CONTROL and CHECK and bears a telegram the lane's role allows,
on a LIVE lane with room in its receive queue, it restarts the silence timer and is accepted, and nothing else changes. One
that fails CONTROL or CHECK is a check failure: it is counted, and nothing else changes. A sound frame makes the lane LIVE
and restarts its silence timer, and a repaired CONTROL is counted; then one for another DEST is counted foreign, one that is
rejected raises TELEGRAM_REJECTED with the lane and is not queued, and one that is accepted is queued, or counted an overflow
at a queue of 8. A lane that this turns LIVE from AWAIT or QUIET does the same, on a radio lane too, with the same counts and the
same TELEGRAM_REJECTED; where the window is open, the lane carries telegrams to trucks and its repeat flag is clear, RESYNC with
the time left is offered to its transmit queue. In BOTH mode more may follow it there, from the copies held as pairing becomes
degraded; in the other modes nothing does (R51, R144 to R148, R154). That each lane has a repeat flag of its own, how held
copies are settled, and that a rejected telegram counts as corrected too, is the model's reading (notes/assumptions/24.md, 27.md,
44.md). -/
def Obligations.FrameIsAccepted : Prop :=
  (∀ (s : State) (l : LaneId) (octets : List Octet) (f : Frame) (control : Octet) (e : RxEntry),
      s.running = true → s.positionsTold → s.settings.lanes[l].role ≠ .unused → s.lanes[l].state = .live →
      s.lanes[l].partialFrame = [] → s.lanes[l].rx.length < 8 →
      octets.head? = some 0xC5#8 → frameComplete octets = true → octets.length ≤ 208 →
      frameOf octets = some f → judgeControl f.control = some (control, false) →
      check (f.covered control) = f.checkOctets → f.dest = 0xFE#8 →
      judgeTelegram s.settings.lanes[l].role control f = some e →
      ∃ t, exec (.frame l (octets.map fun o => { value := o, framingError := false })) s = .next t
        ∧ t = { s with lanes := t.lanes } ∧ (∀ m : LaneId, m ≠ l → t.lanes[m] = s.lanes[m])
        ∧ t.lanes[l].rx = s.lanes[l].rx ++ [e]
        ∧ t.lanes[l].counts = s.lanes[l].counts.bumpAccepted
        ∧ t.lanes[l].silenceStart = s.now ∧ t.lanes[l].state = .live ∧ t.lanes[l].partialFrame = []
        ∧ t.lanes[l].tx = s.lanes[l].tx ∧ t.lanes[l].sending = s.lanes[l].sending)
  ∧ (∀ (s : State) (l : LaneId) (octets : List Octet), s.frameArrives l octets →
    (∀ f control repaired, ¬ soundFrame octets f control repaired) →
    exec (frameOn l octets) s = .next
      (s.onLane l fun p => { p with lastOctet := s.now, counts := p.counts.bumpCheckFailures }))
  ∧ (∀ (s : State) (l : LaneId) (octets : List Octet) (f : Frame) (control : Octet) (repaired : Bool),
    s.frameArrives l octets → soundFrame octets f control repaired →
    (s.lanes[l].state = .live ∨ s.settings.lanes[l].role.isRadio = false) →
    (f.dest ≠ 0xFE#8 →
      exec (frameOn l octets) s = .next
        (s.onLane l fun p =>
          { p.heard s.now repaired with counts := (p.heard s.now repaired).counts.bumpForeign }))
    ∧ (f.dest = 0xFE#8 → ∀ e, judgeTelegram s.settings.lanes[l].role control f = some e →
      exec (frameOn l octets) s = .next
        (s.onLane l fun p =>
          if p.rx.length < 8 then
            { p.heard s.now repaired with
              rx := p.rx ++ [e]
              counts := (p.heard s.now repaired).counts.bumpAccepted }
          else { p.heard s.now repaired with counts := (p.heard s.now repaired).counts.bumpOverflows }))
    ∧ (f.dest = 0xFE#8 → judgeTelegram s.settings.lanes[l].role control f = none →
      ∃ t, exec (frameOn l octets) s = .next t ∧ t = { s with lanes := t.lanes, events := t.events }
        ∧ t.events[EventKind.telegramRejected.code] = s.events[EventKind.telegramRejected.code].occur (.lane l)
        ∧ t.lanes[l].state = .live ∧ t.lanes[l].silenceStart = s.now ∧ t.lanes[l].partialFrame = []
        ∧ t.lanes[l].rx = s.lanes[l].rx ∧ t.lanes[l].counts.accepted = s.lanes[l].counts.accepted
        ∧ t.lanes[l].counts.corrected =
            (if repaired then min 65535 (s.lanes[l].counts.corrected + 1) else s.lanes[l].counts.corrected)))
  ∧ (∀ (s : State) (l : LaneId) (octets : List Octet) (f : Frame) (control : Octet) (repaired : Bool),
    s.frameArrives l octets → soundFrame octets f control repaired →
    s.lanes[l].state ≠ .live → s.settings.lanes[l].role.isRadio = true →
    ∃ t, exec (frameOn l octets) s = .next t
      ∧ t.lanes[l].state = .live ∧ t.lanes[l].silenceStart = s.now ∧ t.lanes[l].partialFrame = []
      ∧ (s.resyncOpened ≠ none → s.carriesTrucks s.settings.lanes[l].role = true →
          t.lanes[l].resyncRepeated = true)
      ∧ (f.dest ≠ 0xFE#8 → t.lanes[l].rx = s.lanes[l].rx)
      ∧ (f.dest = 0xFE#8 → judgeTelegram s.settings.lanes[l].role control f = none →
          t.lanes[l].rx = s.lanes[l].rx)
      ∧ (f.dest = 0xFE#8 → ∀ e, judgeTelegram s.settings.lanes[l].role control f = some e →
          t.lanes[l].rx = if s.lanes[l].rx.length < 8 then s.lanes[l].rx ++ [e] else s.lanes[l].rx)
      ∧ t.lanes[l].counts.checkFailures = s.lanes[l].counts.checkFailures
      ∧ t.lanes[l].counts.corrected =
          (if repaired then min 65535 (s.lanes[l].counts.corrected + 1) else s.lanes[l].counts.corrected)
      ∧ t.lanes[l].counts.foreignAddress =
          (if f.dest ≠ 0xFE#8 then min 65535 (s.lanes[l].counts.foreignAddress + 1)
           else s.lanes[l].counts.foreignAddress)
      ∧ t.lanes[l].counts.accepted =
          (if f.dest = 0xFE#8 ∧ judgeTelegram s.settings.lanes[l].role control f ≠ none ∧ s.lanes[l].rx.length < 8
           then min 65535 (s.lanes[l].counts.accepted + 1) else s.lanes[l].counts.accepted)
      ∧ t.lanes[l].counts.receiveOverflows =
          (if f.dest = 0xFE#8 ∧ judgeTelegram s.settings.lanes[l].role control f ≠ none ∧ 8 ≤ s.lanes[l].rx.length
           then min 65535 (s.lanes[l].counts.receiveOverflows + 1) else s.lanes[l].counts.receiveOverflows)
      ∧ t.events[EventKind.telegramRejected.code] =
          (if f.dest = 0xFE#8 ∧ judgeTelegram s.settings.lanes[l].role control f = none
           then s.events[EventKind.telegramRejected.code].occur (.lane l)
           else s.events[EventKind.telegramRejected.code])
      ∧ (∀ opened, s.resyncOpened = some opened → s.carriesTrucks s.settings.lanes[l].role = true →
          s.lanes[l].resyncRepeated = false →
          (s.settings.pairingMode ≠ .both →
            t.lanes[l].tx = (s.lanes[l].offer
              { dest := 0xFF, urgent := true, answer := false
                payload := .resync (opened + s.settings.resyncWindow - s.now) }).tx)
          ∧ (s.lanes[l].tx.length < 16 →
            { dest := 0xFF, urgent := true, answer := false
              payload := .resync (opened + s.settings.resyncWindow - s.now) } ∈ t.lanes[l].tx))
      ∧ (s.resyncOpened = none ∨ s.carriesTrucks s.settings.lanes[l].role = false ∨ s.lanes[l].resyncRepeated = true →
          t.lanes[l].resyncRepeated = s.lanes[l].resyncRepeated
          ∧ (s.settings.pairingMode ≠ .both → t.lanes[l].tx = s.lanes[l].tx)))

/-- A frame that stops for 5 ms is a check failure: it is counted and the lane hunts again; nothing else changes (R144). That
the command changes nothing before the 5 ms have passed, or outside a frame, is the model's choice
(notes/assumptions/3.md). -/
def Obligations.FrameTimeoutIsCheckFailure : Prop :=
  ∀ (s : State) (l : LaneId), s.running = true →
    exec (.frameTimeout l) s = .next
      (if s.lanes[l].partialFrame ≠ [] ∧ s.lanes[l].lastOctet + 5 ≤ s.now then
        s.onLane l fun p => { p with partialFrame := [], counts := p.counts.bumpCheckFailures }
      else s)

/-- A free line takes the head telegram of its queue and no other; at the end of the transmission the line is free again. A
line-rate change that waits for one transmission is in force when that one ends, ahead of the changes written after it, and a
frame then being received is discarded and counts as nothing. A SET of the line rate on the lane that carried it takes effect
after its own REPLY, behind any change that waits already; on another lane it is in force at once, or when the transmission
on the line has ended (R143, R149). That a change waits as a count of transmissions is the model's choice
(notes/assumptions/13.md). -/
def Obligations.TransmissionTakesHeadThenFreesLine : Prop :=
  (∀ (s : State) (l : LaneId) (t : OutTelegram) (rest : List OutTelegram), s.running = true →
      s.settings.lanes[l].role ≠ .unused → s.lanes[l].sending = none → s.lanes[l].tx = t :: rest →
      exec (.transmitStart l) s = .next
        (s.onLane l fun p => { p with tx := rest, sending := some { octets := t.frame, started := s.now } }))
    ∧ (∀ (s : State) (l : LaneId) (x : Transmission), s.running = true → s.lanes[l].sending = some x →
      s.lanes[l].rateChanges = [] →
      exec (.transmitEnd l) s = .next (s.onLane l fun p => { p with sending := none }))
    ∧ (∀ (s : State) (l : LaneId) (x : Transmission) (rate left : Nat) (rest : List RateChange), s.running = true →
      s.lanes[l].sending = some x → s.lanes[l].rateChanges = { rate := rate, transmissionsLeft := left + 1 } :: rest →
      (∀ c ∈ rest, left + 1 < c.transmissionsLeft) →
      exec (.transmitEnd l) s = .next
        (s.onLane l fun p =>
          let later := rest.map fun c => { c with transmissionsLeft := c.transmissionsLeft - 1 }
          if left = 0 then { p with sending := none, rate := rate, rateChanges := later, partialFrame := [] }
          else { p with sending := none, rateChanges := { rate := rate, transmissionsLeft := left } :: later }))
    ∧ (∀ (s : State) (l : LaneId) (members : MemberSet) (value : BitVec 32) (rate : Nat),
      s.superTakes l (.setItem 0x41 members value) → s.setAnswer 0x41 members = none → isRateFor value.toNat rate →
      (∀ c ∈ s.lanes[l].rateChanges, 0 < c.transmissionsLeft) →
      ∃ t, exec (.setItem 0x41 members value) s = .next t
        ∧ (∀ m : LaneId, MemberSet.lists members m.val = true → t.settings.lanes[m].lineRate = rate)
        ∧ t.lanes[l].rate = s.lanes[l].rate
        ∧ (MemberSet.lists members l.val = true → s.settings.lanes[l].lineRate ≠ rate →
            t.lanes[l].rateChanges = s.lanes[l].rateChanges ++
              [{ rate := rate, transmissionsLeft := s.lanes[l].sending.toList.length + t.lanes[l].tx.length }])
        ∧ (∀ m : LaneId, m ≠ l → MemberSet.lists members m.val = true → s.settings.lanes[m].lineRate ≠ rate →
            s.lanes[m].rateChanges = [] →
            (s.lanes[m].sending = none → t.lanes[m].rate = rate ∧ t.lanes[m].rateChanges = []
              ∧ t.lanes[m].partialFrame = [])
            ∧ (s.lanes[m].sending ≠ none → t.lanes[m].rate = s.lanes[m].rate
              ∧ t.lanes[m].rateChanges = [{ rate := rate, transmissionsLeft := 1 }])))

/-- A LINK_BEACON at the head of a radio lane's receive queue is taken and discarded (R146, R147). -/
def Obligations.BeaconIsDiscarded : Prop :=
  ∀ (s : State) (l : LaneId) (status : Octet),
    (s.settings.lanes[l].role = .radioA ∧ s.atHead l 0xF8 (.linkBeacon status)
      ∨ s.settings.lanes[l].role = .radioB ∧ s.atHead l 0xF9 (.linkBeacon status)) →
    exec (.linkBeacon l status) s = .next (s.popRx l)

/-- A lane whose silence limit has passed turns QUIET, and LANE_QUIET is raised with it as subject; no other lane changes its
state. When it is the FEEDER lane, every FRESH record becomes HELD and the feeder hold timer starts anew; the figures, the
sections and the trucks stay as they were (R128, R148). When it is a LIVE radio lane in BOTH mode and the other radio lane is LIVE,
pairing becomes degraded and PAIRING_DEGRADED is raised with the lane; the slots are emptied, each copy held from the silent
lane counts unpaired on it, and nothing else of the trucks, queues, sections, feeders and breaks changes; then each copy held
from a LIVE lane is acted on (R154), each as one event at the Truck Roster with its own position reports (R41, R152). That these
events come last, in roster order, is the model's choice (notes/assumptions/27.md). -/
def Obligations.SilentLaneTurnsQuiet : Prop :=
  (∀ (s : State) (l : LaneId), s.running = true → s.laneSilenceDue l = true →
    ∃ t, exec (.laneSilenceExpiry l) s = .next t ∧ t.lanes[l].state = .quiet
      ∧ (∀ m : LaneId, m ≠ l → t.lanes[m].state = s.lanes[m].state)
      ∧ t.events[EventKind.laneQuiet.code] = s.events[EventKind.laneQuiet.code].occur (.lane l)
      ∧ (s.settings.lanes[l].role = .feeder → s.settings.feederHoldTime ≠ 0 →
          t.holdTimer = some s.now ∧ t.sections = s.sections ∧ t.roster = s.roster ∧ t.breaks = s.breaks
            ∧ ∀ k : SectionId, t.feeders[k] =
                { s.feeders[k] with age := if s.feeders[k].age = .fresh then .held else s.feeders[k].age }))
    ∧ (∀ (s : State) (l m : LaneId), s.running = true → s.positionsTold → s.laneSilenceDue l = true →
      s.settings.pairingMode = .both → s.degraded = false →
      (s.laneOfRole .radioA = some l ∧ s.laneOfRole .radioB = some m
        ∨ s.laneOfRole .radioA = some m ∧ s.laneOfRole .radioB = some l) →
      s.lanes[l].state = .live → s.lanes[m].state = .live → m ≠ l →
      ∃ u, exec (.laneSilenceExpiry l) s = .next
          ((s.roster.filterMap fun r => r.slot.bind fun c =>
              if c.lane ≠ l ∧ s.lanes[c.lane].state = .live then some (r.id, c.telegram) else none).foldl
            (fun x c => State.finish x (x.rosterTelegram c.1 c.2)) u)
        ∧ u.degraded = true ∧ u.roster = s.roster.map (fun r => { r with slot := none })
        ∧ u.queues = s.queues ∧ u.sections = s.sections ∧ u.feeders = s.feeders ∧ u.breaks = s.breaks
        ∧ (s.lanes[l].counts.unpaired ≤ 65535 → u.lanes[l].counts.unpaired = min 65535
            (s.lanes[l].counts.unpaired + (s.roster.filter fun r => r.slot.any fun c => c.lane = l).length))
        ∧ u.events[EventKind.laneQuiet.code] = s.events[EventKind.laneQuiet.code].occur (.lane l)
        ∧ u.events[EventKind.pairingDegraded.code] = s.events[EventKind.pairingDegraded.code].occur (.lane l))

/-! ## Radio pairing -/

/-- Pairing of the five truck telegrams. In EITHER mode the second of two identical copies from the two radio lanes is
absorbed: the slot is emptied and nothing else changes. In BOTH mode with pairing not degraded a copy that finds its slot
empty is held and nothing else changes, so that one copy alone is never acted on. A matching copy from the other lane within
the window empties the slot, and the telegram is acted on once: the tenth law of the device. An identical copy from the same
lane is discarded and counts one unpaired; another telegram takes the slot, and the copy it held counts one unpaired on its
lane. A copy whose window has ended is discarded and counts one unpaired on its lane (R152, R153). That PAIRING_WINDOW_END
changes nothing before that, or for an empty slot, is the model's choice (notes/assumptions/3.md). -/
def Obligations.CopiesArePaired : Prop :=
  (∀ (s : State) (l : LaneId) (t : TruckId) (r : Truck) (c : RadioCopy) (m : Inbound), m.isTruck = true →
      s.settings.pairingMode = .either → s.positionsTold → s.atHead l t m → s.truck? t = some r →
      r.slot = some c → c.telegram = m → c.lane ≠ l → s.now < c.arrival + c.window →
      exec (RxEntry.command l { src := t, telegram := m }) s = .next ((s.popRx l).setSlot t none))
    ∧ (∀ (s : State) (l : LaneId) (t : TruckId) (r : Truck) (m : Inbound), m.isTruck = true →
      s.settings.pairingMode = .both → s.degraded = false → s.positionsTold → s.atHead l t m → s.truck? t = some r →
      (r.slot = none →
        exec (RxEntry.command l { src := t, telegram := m }) s = .next
          ((s.popRx l).setSlot t (some
            { telegram := m, lane := l, arrival := s.now, window := s.settings.pairingWindow })))
      ∧ ∀ c, r.slot = some c → s.now < c.arrival + c.window →
        (c.telegram = m → c.lane ≠ l →
          exec (RxEntry.command l { src := t, telegram := m }) s = .next
            (State.finish s (((s.popRx l).setSlot t none).rosterTelegram t m)))
        ∧ (c.telegram = m → c.lane = l →
          exec (RxEntry.command l { src := t, telegram := m }) s = .next
            ((s.popRx l).onLane l fun p => { p with counts := p.counts.bumpUnpaired }))
        ∧ (c.telegram ≠ m →
          exec (RxEntry.command l { src := t, telegram := m }) s = .next
            (((s.popRx l).onLane c.lane fun p => { p with counts := p.counts.bumpUnpaired }).setSlot t (some
              { telegram := m, lane := l, arrival := s.now, window := s.settings.pairingWindow }))))
    ∧ (∀ (s : State) (t : TruckId) (r : Truck), s.running = true → s.settings.pairingMode = .both →
      s.truck? t = some r →
      (r.slot = none → exec (.pairingWindowEnd t) s = .next s)
      ∧ ∀ c, r.slot = some c →
        (c.arrival + c.window ≤ s.now →
          exec (.pairingWindowEnd t) s = .next
            ((s.onLane c.lane fun p => { p with counts := p.counts.bumpUnpaired }).setSlot t none))
        ∧ (s.now < c.arrival + c.window → exec (.pairingWindowEnd t) s = .next s))

/-! ## Truck telegrams -/

/-- A fresh ADMIT of an IDLE truck. It names a section in service that is not LIVE, with room in its queue: the truck is QUEUED
there, RAISED behind the last SHED or RAISED entry with the raised flag while the resync window is open, else NORMAL at the
tail; its demand is applied at once; no pass runs, so sections, breaks, feeder records and the other queues stay. A LIVE
section with room in its queue, whose committed load fits: the truck is QUEUED or HOLDER there with its demand applied; with
nobody queued before it, in AUTO or FIXED mode outside OVERDRAW, a slot free and its floor fitting, it is HOLDER at its floor,
and in HELD mode, in OVERDRAW or with no slot free it stays QUEUED. A full queue: a NORMAL arrival, or a RAISED one behind no
NORMAL entry, is refused: the truck is IDLE, QUEUE_FULL is raised with it and LOWER(QUEUE_FULL) sent; a RAISED one displaces
the NORMAL tail, which is IDLE so. A section not in service or of no number: LOWER(NO_SECTION) is sent, and only the time last
heard and the pairing slot change. An ADMIT from an ID with no record raises NOT_ENROLLED with the ID, and makes no entry and
no record (R18, R29, R30, R39, R40, R42 to R46, R52, R67, R68, R155). -/
def Obligations.FreshAdmitIsQueued : Prop :=
  (∀ (s : State) (l : LaneId) (t : TruckId) (r : Truck) (k : SectionId) (sectionNo flags : Octet)
    (demand : BitVec 16),
    s.truckActs l t (.truckAdmit sectionNo demand flags) r → r.state = .idle → sectionNo.toNat = k.val →
    s.inService k = true → s.isLive k = false → s.queues[k].length < 8 → s.positionsTold →
    ∃ s' r', exec (.truckAdmit l t sectionNo demand flags) s = .next s'
      ∧ s'.queues[k] = toldFrom 1 (placeEntry s.queues[k]
          { truck := t
            rank := if flags.getLsbD 0 = true ∧ s.resyncOpened.isSome = true then .raised else .normal
            reported := none })
      ∧ (∀ j : SectionId, j ≠ k → s'.queues[j] = s.queues[j])
      ∧ s'.truck? t = some r' ∧ r'.state = .queued ∧ r'.sec = some k ∧ r'.cls = r.cls
      ∧ r'.requested = quantumUp demand.toNat
      ∧ r'.applied = clampTo s.settings.classes[r.cls].floor s.settings.classes[r.cls].ceiling r'.requested
      ∧ r'.lastApplication = some s.now ∧ r'.lastHeard = some s.now
      ∧ (∀ x : TruckId, x ≠ t → s'.truck? x = s.truck? x)
      ∧ s'.sections = s.sections ∧ s'.breaks = s.breaks ∧ s'.feeders = s.feeders ∧ s'.events = s.events)
  ∧ (∀ (s : State) (l : LaneId) (t : TruckId) (r : Truck) (k : SectionId) (sectionNo flags : Octet)
    (demand : BitVec 16),
    s.truckActs l t (.truckAdmit sectionNo demand flags) r → r.state = .idle → sectionNo.toNat = k.val →
    s.placesLaw → s.isLive k = true → s.queues[k].length < 8 → s.committed k ≤ s.sections[k].available →
    ∃ s' r', exec (.truckAdmit l t sectionNo demand flags) s = .next s'
      ∧ s'.truck? t = some r' ∧ (r'.state = .queued ∨ r'.state = .holder) ∧ r'.sec = some k ∧ r'.cls = r.cls
      ∧ r'.requested = quantumUp demand.toNat
      ∧ r'.applied = clampTo s.settings.classes[r.cls].floor s.settings.classes[r.cls].ceiling r'.requested
      ∧ r'.lastApplication = some s.now ∧ r'.lastHeard = some s.now
      ∧ (s.settings.sections[k].mode = .held ∨ s.inOverdraw k = true ∨ s.slotFree k = false → r'.state = .queued)
      ∧ (s.queues[k] = [] → s.settings.sections[k].mode ≠ .held → s.inOverdraw k = false → s.slotFree k = true →
          s.committed k + s.settings.classes[r.cls].floor ≤ s.sections[k].available →
          r'.state = .holder ∧ s'.queues[k] = []
            ∧ ∃ h, holderIn s'.sections[k].holders t = some h ∧ h.issued = s.settings.classes[r.cls].floor
              ∧ h.issued ≤ h.target))
  ∧ (∀ (s : State) (l : LaneId) (t : TruckId) (r : Truck) (k : SectionId) (sectionNo flags : Octet)
    (demand : BitVec 16) (front : List QueueEntry) (tail : QueueEntry),
    s.truckActs l t (.truckAdmit sectionNo demand flags) r → r.state = .idle → sectionNo.toNat = k.val →
    s.inService k = true → s.positionsTold → s.queues[k] = front ++ [tail] → 7 ≤ front.length →
    (flags.getLsbD 0 = false ∨ s.resyncOpened = none ∨ tail.rank ≠ .normal →
      ∃ s' r', exec (.truckAdmit l t sectionNo demand flags) s = .next s'
        ∧ s'.truck? t = some r' ∧ r'.state = .idle ∧ r'.sec = none ∧ r'.requested = r.requested
        ∧ r'.lastApplication = r.lastApplication ∧ r'.lastHeard = some s.now
        ∧ s'.events[EventKind.queueFull.code] = s.events[EventKind.queueFull.code].occur (.truck t)
        ∧ (∀ m : LaneId, s.carriesLane m = true → s'.lanes[m].tx = (s.lanes[m].offer
            { dest := t, urgent := true, answer := false, payload := .lower .queueFull none }).tx)
        ∧ s'.queues = s.queues ∧ s'.sections = s.sections ∧ s'.breaks = s.breaks ∧ s'.feeders = s.feeders)
    ∧ (flags.getLsbD 0 = true → s.resyncOpened.isSome = true → tail.rank = .normal → s.placesLaw →
      s.isLive k = false →
      ∃ s', exec (.truckAdmit l t sectionNo demand flags) s = .next s'
        ∧ s'.queues[k] = toldFrom 1 (placeEntry front { truck := t, rank := .raised, reported := none })
        ∧ s'.truckState t = .queued ∧ s'.truckState tail.truck = .idle
        ∧ s'.events[EventKind.queueFull.code] = s.events[EventKind.queueFull.code].occur (.truck tail.truck)
        ∧ (∀ m : LaneId, s.carriesLane m = true → s.lanes[m].tx.length < 16 →
            { dest := tail.truck, urgent := true, answer := false, payload := .lower .queueFull none }
              ∈ s'.lanes[m].tx)
        ∧ (∀ j : SectionId, j ≠ k → s'.queues[j] = s.queues[j])
        ∧ s'.sections = s.sections ∧ s'.breaks = s.breaks ∧ s'.feeders = s.feeders))
  ∧ (∀ (s : State) (l : LaneId) (t : TruckId) (r : Truck) (sectionNo flags : Octet) (demand : BitVec 16),
    s.truckActs l t (.truckAdmit sectionNo demand flags) r → r.state = .idle → s.positionsTold →
    (∀ k : SectionId, sectionNo.toNat = k.val → s.inService k = false) →
    ∃ s' r', exec (.truckAdmit l t sectionNo demand flags) s = .next s'
      ∧ s' = { s.popRx l with lanes := s'.lanes, roster := s'.roster }
      ∧ s'.truck? t = some r' ∧ r' = { r with lastHeard := some s.now, slot := r'.slot }
      ∧ (∀ x : TruckId, x ≠ t → s'.truck? x = s.truck? x)
      ∧ ∀ m : LaneId, s'.lanes[m].tx =
          if s.carriesLane m then
            (s.lanes[m].offer { dest := t, urgent := true, answer := false, payload := .lower .noSection none }).tx
          else s.lanes[m].tx)
  ∧ (∀ (s : State) (l : LaneId) (t : TruckId) (sectionNo flags : Octet) (demand : BitVec 16),
    s.positionsTold → s.atHead l t (.truckAdmit sectionNo demand flags) →
    s.actsOn l t (.truckAdmit sectionNo demand flags) = true → s.truck? t = none →
    ∃ s', exec (.truckAdmit l t sectionNo demand flags) s = .next s'
      ∧ s'.events[EventKind.notEnrolled.code] = s.events[EventKind.notEnrolled.code].occur (.truck t)
      ∧ s'.roster = s.roster ∧ s'.queues = s.queues ∧ s'.sections = s.sections ∧ s'.breaks = s.breaks
      ∧ s'.feeders = s.feeders)

/-- A DEMAND of a truck that is not IDLE, the demand interval having passed since its last application, is applied: the
requested demand is the demand rounded up to the quantum and no demand waits any more, whatever the pass then does. Without the
boost flag, or from a truck that is no ordinary holder of a LIVE section in AUTO mode with a class boost limit above 0, no
boost is ACTIVE afterwards. With the flag and those conditions, where the pass sheds nobody, a boost state of NONE becomes
ACTIVE for the class boost limit, an ACTIVE one and a cooldown stay, and the demand is clamped between the floor and the boost
ceiling, or the ceiling in a cooldown. A DEMAND that comes within the interval waits, in place of any demand that waited
before: the truck's demands are unchanged, and nothing else changes but the time it was last heard and its pairing slot (R8,
R30, R31, R32). -/
def Obligations.DemandIsApplied : Prop :=
  ∀ (s : State) (l : LaneId) (t : TruckId) (r : Truck) (demand : BitVec 16) (flags : Octet),
    s.truckActs l t (.truckDemand demand flags) r → r.state ≠ .idle →
    (s.intervalOver r = true →
      ∃ s' r', exec (.truckDemand l t demand flags) s = .next s' ∧ s'.truck? t = some r'
        ∧ r'.requested = quantumUp demand.toNat ∧ r'.waiting = none ∧ r'.lastApplication = some s.now
        ∧ r'.lastHeard = some s.now ∧ r'.cls = r.cls
        ∧ (flags.getLsbD 0 = false
            ∨ ¬(r.state = .holder ∧ 0 < s.settings.classes[r.cls].boostLimit
              ∧ ∃ k, r.sec = some k ∧ s.isLive k = true ∧ s.settings.sections[k].mode = .auto) →
          r'.boost.isActive = false)
        ∧ (flags.getLsbD 0 = true → r.state = .holder → 0 < s.settings.classes[r.cls].boostLimit →
          ∀ k, r.sec = some k → s.isLive k = true → s.settings.sections[k].mode = .auto →
          s.committed k ≤ s.sections[k].available →
            r'.boost =
                (if r.boost = .none then .active (s.now + s.settings.classes[r.cls].boostLimit * 1000) else r.boost)
              ∧ r'.applied = clampTo s.settings.classes[r.cls].floor
                  (if r.boost.isCooldown then s.settings.classes[r.cls].ceiling
                   else s.settings.classes[r.cls].boostCeiling) r'.requested))
    ∧ (s.intervalOver r = false → s.positionsTold →
      ∃ s' r', exec (.truckDemand l t demand flags) s = .next s' ∧ s'.truck? t = some r'
        ∧ r' = { r with
            waiting := some { amps := quantumUp demand.toNat, boost := flags.getLsbD 0 }
            lastHeard := some s.now
            slot := r'.slot }
        ∧ s' = { s.popRx l with roster := s'.roster }
        ∧ (∀ x : TruckId, x ≠ t → s'.truck? x = s.truck? x))

/-- The APPROACH of an ordinary holder that names the break above its section makes it APPROACHING with an entry of the kind
that the section above allows, made now; its issued grant is the gap grant, at most the gap current and its former issued
grant, or 0 if the pass has taken it (R64, R97, R98, R99). -/
def Obligations.ApproachMakesEntry : Prop :=
  ∀ (s : State) (l : LaneId) (t : TruckId) (r : Truck) (b : BreakId) (h : Holder) (breakNo : Octet),
    s.truckActs l t (.truckApproach breakNo) r → r.state = .holder → r.sec = some b →
    breakNo.toNat = breakNumber b → holderIn s.sections[b].holders t = some h →
    entryOf s.breaks[b].approaches t = none → (∀ e ∈ s.queues[b], e.truck ≠ t) →
    ∃ s' r' e h', exec (.truckApproach l t breakNo) s = .next s'
      ∧ s'.truck? t = some r' ∧ r'.state = .approaching ∧ r'.boost.isActive = false
      ∧ entryOf s'.breaks[b].approaches t = some e ∧ e.kind = s.entryKind b t h.target ∧ e.state = .approaching
      ∧ e.approachTime = s.now
      ∧ (e.gapGrant = min s.settings.breaks[b].gapCurrent h.issued ∨ e.gapGrant = 0)
      ∧ holderIn s'.sections[b].holders t = some h' ∧ h'.issued = e.gapGrant

/-- A PASSED acted on at a break completes its truck's entry there: the entry is gone, the break's last completion is this one,
an APPROACHING entry raises EARLY_CROSSING, and an EXIT entry leaves the truck IDLE. The completion of a HANDOVER entry
makes the truck an ordinary holder of the section above and takes it off the list below; where the section above is LIVE and its
committed load fits, its reservation covering the floor, the pass there gives the truck a target of at most the
reservation, its entry target, and an issued grant of at least its floor and at most its target (R55, R68, R70, R103, R105,
R106). -/
def Obligations.PassedCompletesEntry : Prop :=
  ∀ (s : State) (l : LaneId) (t : TruckId) (r : Truck) (b : BreakId) (e : ApproachEntry) (breakNo : Octet),
    s.truckActs l t (.truckPassed breakNo) r → r.sec = some b → breakNo.toNat = breakNumber b →
    s.breakInUse b = true → s.settings.breaks[b].evidenceMode ≠ .sensor →
    entryOf s.breaks[b].approaches t = some e →
    ∃ s', exec (.truckPassed l t breakNo) s = .next s'
      ∧ entryOf s'.breaks[b].approaches t = none
      ∧ s'.breaks[b].lastCompletion = some { truck := t, evidence := .telegram, time := s.now, edgeAbsorbed := false }
      ∧ s'.events[EventKind.earlyCrossing.code] =
          (if e.isCleared then s.events[EventKind.earlyCrossing.code]
           else s.events[EventKind.earlyCrossing.code].occur (.truck t))
      ∧ (e.kind = .exit → s'.truckState t = .idle)
      ∧ (∀ amount above, s.placesLaw → e.kind = .handover amount → sectionAbove b = some above →
          s.isLive above = true → s.committed above ≤ s.sections[above].available → s.floorOf t ≤ amount →
          s'.truckState t = .holder ∧ (s'.truck? t).bind (fun x => x.sec) = some above
            ∧ holderIn s'.sections[b].holders t = none
            ∧ ∃ h, holderIn s'.sections[above].holders t = some h
                ∧ s.floorOf t ≤ h.issued ∧ h.issued ≤ h.target ∧ h.target ≤ amount)

/-- A LOWERED and a FORCE_RELEASE of a truck that is not IDLE release it: it is IDLE with no section, stands in no queue, on no
holder list of its section and at no break above it, and stays enrolled in its class; FORCE_RELEASE needs no window (R21,
R28). -/
def Obligations.ReleasedTruckHoldsNothing : Prop :=
  ∀ (s : State) (l : LaneId) (t : TruckId) (r : Truck) (k : SectionId) (c : Instr),
    (c = .truckLowered l t ∧ s.truckActs l t .truckLowered r
      ∨ c = .forceRelease t ∧ s.superTakes l (.forceRelease t) ∧ s.truck? t = some r) →
    r.state ≠ .idle → r.sec = some k → s.queuedOnlyAt t k →
    ∃ s' r', exec c s = .next s' ∧ s'.truck? t = some r' ∧ r'.state = .idle ∧ r'.sec = none
      ∧ r'.waiting = none ∧ r'.silent = false ∧ r'.boost.isActive = false ∧ r'.requested = r.requested
      ∧ r'.cls = r.cls
      ∧ (∀ j : SectionId, ∀ e ∈ s'.queues[j], e.truck ≠ t)
      ∧ (∀ h ∈ s'.sections[k].holders, h.truck ≠ t)
      ∧ entryOf s'.breaks[k].approaches t = none

/-! ## Truck timers -/

/-- At the end of the demand interval the pending demand of a truck that is not silent is applied (R30, R31). -/
def Obligations.PendingDemandIsApplied : Prop :=
  ∀ (s : State) (t : TruckId) (r : Truck) (p : PendingDemand), s.running = true → s.truck? t = some r →
    r.waiting = some p → r.silent = false → s.intervalOver r = true →
    ∃ s' r', exec (.demandIntervalEnd t) s = .next s' ∧ s'.truck? t = some r'
      ∧ r'.requested = quantumUp p.amps ∧ r'.waiting = none ∧ r'.lastApplication = some s.now
      ∧ r'.cls = r.cls ∧ r'.lastHeard = r.lastHeard ∧ r'.slot = r.slot

/-- A boost whose time has run out ends: BOOST_EXPIRED is raised with the truck, and the boost state is COOLDOWN for the class
cooldown, or NONE if that is 0. A cooldown whose time has run out ends with no pass: nothing but the boost state changes (R33). -/
def Obligations.BoostAndCooldownEnd : Prop :=
  (∀ (s : State) (t : TruckId) (r : Truck) (ends : Time), s.running = true → s.truck? t = some r →
      r.boost = .active ends → ends ≤ s.now →
      ∃ s' r', exec (.boostExpiry t) s = .next s' ∧ s'.truck? t = some r'
        ∧ r'.boost = (if s.settings.classes[r.cls].boostCooldown = 0 then .none
            else .cooldown (s.now + s.settings.classes[r.cls].boostCooldown * 1000))
        ∧ r'.requested = r.requested
        ∧ r'.applied = clampTo s.settings.classes[r.cls].floor s.settings.classes[r.cls].ceiling r.requested
        ∧ s'.events[EventKind.boostExpired.code] = s.events[EventKind.boostExpired.code].occur (.truck t))
    ∧ (∀ (s : State) (t : TruckId) (r : Truck) (ends : Time), s.running = true → s.truck? t = some r →
      r.boost = .cooldown ends → ends ≤ s.now →
      exec (.cooldownEnd t) s = .next
        { s with roster := s.roster.map fun x => if x.id = t then { x with boost := .none } else x })

/-- The silence limit of a truck that is not queued marks it silent and raises TRUCK_SILENT, unless the pass has shed it to IDLE
at once; a queued truck is released to IDLE instead (R34). Where the abandon limit has passed as well, the truck is released to
IDLE and gives up its places in the same event, TRUCK_ABANDONED raised beside TRUCK_SILENT (R36; notes/assumptions/35.md). -/
def Obligations.SilenceMarksTruck : Prop :=
  (∀ (s : State) (t : TruckId) (r : Truck) (heard : Time), s.running = true → s.truck? t = some r →
      r.state ≠ .idle → r.state ≠ .queued → (∀ j : SectionId, ∀ e ∈ s.queues[j], e.truck ≠ t) → r.silent = false →
      r.lastHeard = some heard →
      heard + s.settings.silenceLimit ≤ s.now → s.now < heard + s.settings.abandonLimit →
      ∃ s' r', exec (.silenceLimitExpiry t) s = .next s' ∧ s'.truck? t = some r'
        ∧ (r'.silent = true ∨ r'.state = .idle) ∧ r'.lastHeard = some heard
        ∧ s'.events[EventKind.truckSilent.code] = s.events[EventKind.truckSilent.code].occur (.truck t))
    ∧ (∀ (s : State) (t : TruckId) (r : Truck) (k : SectionId) (heard : Time), s.running = true →
      s.truck? t = some r → r.state = .queued → r.sec = some k → s.queuedOnlyAt t k → r.silent = false →
      r.lastHeard = some heard → heard + s.settings.silenceLimit ≤ s.now →
      ∃ s', exec (.silenceLimitExpiry t) s = .next s' ∧ s'.truckState t = .idle
        ∧ (∀ e ∈ s'.queues[k], e.truck ≠ t)
        ∧ s'.events[EventKind.truckSilent.code] = s.events[EventKind.truckSilent.code])
    ∧ (∀ (s : State) (t : TruckId) (r : Truck) (k : SectionId) (heard : Time), s.running = true →
      s.truck? t = some r → r.state ≠ .idle → r.state ≠ .queued → r.sec = some k → s.queuedOnlyAt t k →
      r.silent = false → r.lastHeard = some heard → heard + s.settings.silenceLimit ≤ s.now →
      heard + s.settings.abandonLimit ≤ s.now →
      ∃ s', exec (.silenceLimitExpiry t) s = .next s' ∧ s'.truckState t = .idle
        ∧ (∀ h ∈ s'.sections[k].holders, h.truck ≠ t) ∧ entryOf s'.breaks[k].approaches t = none
        ∧ (∀ e ∈ s'.queues[k], e.truck ≠ t)
        ∧ s'.events[EventKind.truckSilent.code] = s.events[EventKind.truckSilent.code].occur (.truck t)
        ∧ s'.events[EventKind.truckAbandoned.code] = s.events[EventKind.truckAbandoned.code].occur (.truck t))

/-- A silent truck that has not been heard for the abandon limit is released to IDLE and gives up its places, and
TRUCK_ABANDONED is raised with it (R36). -/
def Obligations.AbandonmentReleasesTruck : Prop :=
  ∀ (s : State) (t : TruckId) (r : Truck) (k : SectionId) (heard : Time), s.running = true → s.truck? t = some r →
    r.silent = true → r.sec = some k → s.queuedOnlyAt t k → r.lastHeard = some heard →
    heard + s.settings.abandonLimit ≤ s.now →
    ∃ s', exec (.abandonment t) s = .next s' ∧ s'.truckState t = .idle
      ∧ (∀ h ∈ s'.sections[k].holders, h.truck ≠ t) ∧ entryOf s'.breaks[k].approaches t = none
      ∧ s'.events[EventKind.truckAbandoned.code] = s.events[EventKind.truckAbandoned.code].occur (.truck t)

/-! ## The allocation pass -/

/-- The deficit check always brings the committed load of a section under A, and it changes neither A nor any issued grant
of a truck it leaves on the list; where the load fits already nothing changes. A reservation is refused only when no gap grant
is left, and a holder is shed only when no reservation is left either. Of each kind the newest go first: the gap grants
that are left are those of the oldest entries, the reservations that are left the oldest, and the ordinary and SUSPENDED
holders that are left the oldest, while crossing holders stay (R63, R64, R65, R66). -/
def Obligations.DeficitCheckFitsLoad : Prop :=
  ∀ (s : State) (k : SectionId),
    (s.deficitCheck k).committed k ≤ (s.deficitCheck k).sections[k].available
      ∧ (s.deficitCheck k).sections[k].available = s.sections[k].available
      ∧ (∀ h ∈ (s.deficitCheck k).sections[k].holders, h ∈ s.sections[k].holders)
      ∧ (s.committed k ≤ s.sections[k].available → s.deficitCheck k = s)
      ∧ ((s.deficitCheck k).handoversInto k ≠ s.handoversInto k → (s.deficitCheck k).gapUse k = 0)
      ∧ ((s.deficitCheck k).sections[k].holders ≠ s.sections[k].holders →
          (s.deficitCheck k).gapUse k = 0 ∧ (s.deficitCheck k).handoversInto k = [])
      ∧ ((s.breaks[k].approaches.map fun e => e.truck).Nodup →
          ∃ n zeros, ((s.deficitCheck k).breaks[k].approaches.map fun e => e.gapGrant)
            = ((s.breaks[k].approaches.map fun e => e.gapGrant).take n) ++ List.replicate zeros 0)
      ∧ ((∀ b, breakBelow k = some b → (s.breaks[b].approaches.map fun e => e.truck).Nodup) →
          ∃ n, (s.deficitCheck k).handoversInto k = (s.handoversInto k).take n)
      ∧ (s.distinctAt k →
          (∃ n, ((s.deficitCheck k).sections[k].holders.filter fun h => s.countsFloor h.truck)
            = (s.sections[k].holders.filter fun h => s.countsFloor h.truck).take n)
          ∧ ((s.deficitCheck k).sections[k].holders.filter fun h => !s.countsFloor h.truck)
            = s.sections[k].holders.filter fun h => !s.countsFloor h.truck)

/-- The fill hands out its room to the quantum: shares and what is left make the room, no share exceeds its cap, and nothing is
left while a holder that takes part could take more; every line keeps its weight and its cap, and a line with a reservation
is given no more than the reservation. The weighted rounds share by weight: with one number of quanta per unit of weight for all,
each line that takes part has that number times its weight, or its cap if that is less; and they end when the room left is
less than one quantum per unit of weight (R69, R70, R71, R72). -/
def Obligations.FillSharesTheRoom : Prop :=
  (∀ (e : Nat) (ls : List FillLine), (∀ l ∈ ls, l.share = 0) →
    ((fill e ls).1.map fun l => l.share).sum + (fill e ls).2 = e
      ∧ (fill e ls).1.length = ls.length
      ∧ (∀ l ∈ (fill e ls).1, l.share ≤ l.cap)
      ∧ ((fill e ls).2 = 0 ∨ ∀ l ∈ (fill e ls).1, l.takesPart = false)
      ∧ ((fill e ls).1.map fun l => (l.weight, l.cap, l.reserved)) = (ls.map fun l => (l.weight, l.cap, l.reserved))
      ∧ ∀ l ∈ (fill e ls).1, ∀ r, l.reserved = some r → l.share ≤ r)
  ∧ ∀ (e : Nat) (ls : List FillLine), (∀ l ∈ ls, l.reserved = none → l.share = 0) →
    (∃ u, ∀ l ∈ (rounds e e ls).1, l.reserved = none → l.share = min (u * l.weight) l.cap)
      ∧ ((∀ l ∈ ls, l.takesPart = true → 1 ≤ l.weight) → (rounds e e ls).2 / totalWeight (rounds e e ls).1 = 0)

/-- A pass on a LIVE section leaves it within its capacity: the issued grants and the reservations fit under A, and so do the
targets and the reservations; every issued grant is at most its target, every ordinary holder has at least its class floor,
every entry field is absent, and no pass is pending any more. This is the first law of the device at the end of a pass; that
every step keeps it, with the passes inside other commands, is PlacesSlotsAndRampStayLawful. The
spare is what is left of A after the targets and the reservations, in HELD mode, and in every mode where no SUSPENDED holder is
on the list (R6, R10, R55, R59, R68, R74, R75). -/
def Obligations.PassKeepsFirstLaw : Prop :=
  ∀ (s : State) (k : SectionId), s.running = true → s.isLive k = true → s.distinctAt k →
    ∃ t, exec (.allocationPass k) s = .next t ∧ t.firstLaw k
      ∧ targetSum t.sections[k].holders + t.reservedInto k ≤ t.sections[k].available
      ∧ t.sections[k].available = s.sections[k].available
      ∧ t.sections[k].passPending = false ∧ t.isLive k = true
      ∧ (t.hasSuspended k = false ∨ s.settings.sections[k].mode = .held →
          t.sections[k].spare = t.sections[k].available - targetSum t.sections[k].holders - t.reservedInto k)
      ∧ ∀ h ∈ t.sections[k].holders, h.issued ≤ h.target ∧ h.entry = .absent
          ∧ (t.isOrdinary h.truck = true → t.floorOf h.truck ≤ h.issued)

/-- A pass stays in its section: no other section's record or queue and no feeder record of another section changes, a break
that is neither above nor below the section stays as it is, the break above and the break below keep the trucks of their
entries and their evidence records, and a truck keeps its enrolment, its requested demand, the time it was last heard and its
pairing slot (R59). -/
def Obligations.PassStaysInSection : Prop :=
  ∀ (s : State) (k : SectionId), s.running = true → s.positionsTold →
    ∃ t, exec (.allocationPass k) s = .next t
      ∧ (∀ j : SectionId, j ≠ k →
          t.sections[j] = s.sections[j] ∧ t.queues[j] = s.queues[j] ∧ t.feeders[j] = s.feeders[j])
      ∧ (∀ b : BreakId,
          (b.val ≠ k.val → b.val + 1 ≠ k.val → t.breaks[b] = s.breaks[b])
          ∧ t.breaks[b] = { s.breaks[b] with approaches := t.breaks[b].approaches }
          ∧ (t.breaks[b].approaches.map fun e => (e.truck, e.state, e.approachTime))
            = (s.breaks[b].approaches.map fun e => (e.truck, e.state, e.approachTime)))
      ∧ (t.roster.map fun r => (r.id, r.cls, r.requested, r.lastApplication, r.lastHeard, r.slot))
        = (s.roster.map fun r => (r.id, r.cls, r.requested, r.lastApplication, r.lastHeard, r.slot))

/-- A due ramp step raises the head truck's issued grant by its profile's step, or to its target if that is nearer, and sets
the last-step time; an entry at its target is gone. The truck is sent a GRANT with its new issued grant, its target and its
boost flag, on each lane that carries telegrams to trucks. No other holder, no other section and no truck's record changes
(R84, R86, R91, R155). -/
def Obligations.RampStepRaisesHead : Prop :=
  ∀ (s : State) (k : SectionId) (e : RampEntry) (h : Holder), s.running = true → s.rampDue k = some e →
    holderIn s.sections[k].holders e.truck = some h → h.issued ≤ e.target →
    ∃ t h', exec (.rampStep k) s = .next t
      ∧ holderIn t.sections[k].holders e.truck = some h'
      ∧ h'.issued = min e.target (h.issued + stepSize (s.classOf e.truck).rampProfile (e.target - h.issued))
      ∧ h'.target = h.target
      ∧ t.sections[k].ramp =
          (if h'.issued < e.target then { e with stepped := true } :: s.sections[k].ramp.tail
           else s.sections[k].ramp.tail)
      ∧ t.sections[k].lastStep = some s.now ∧ t.sections[k].lastDecrease = s.sections[k].lastDecrease
      ∧ (∀ x : TruckId, x ≠ e.truck → holderIn t.sections[k].holders x = holderIn s.sections[k].holders x)
      ∧ (∀ j : SectionId, j ≠ k → t.sections[j] = s.sections[j])
      ∧ (∀ m : LaneId, t.lanes[m] =
          if s.carriesLane m then
            s.lanes[m].offer
              { dest := e.truck, urgent := false, answer := false
                payload := .grant k h'.issued h'.target (s.boostActive e.truck) }
          else s.lanes[m])
      ∧ t.roster = s.roster ∧ t.queues = s.queues ∧ t.breaks = s.breaks ∧ t.feeders = s.feeders ∧ t.events = s.events

/-! ## Crossing a break -/

/-- The gap timer of a CLEARED entry expires when the gap timeout of its break has passed since its time cleared, whatever
the entry's kind, and then cancels the crossing. The truck is HOLDER of the section below again, on its list, and a HANDOVER
entry's reservation and slot in the section above are free. Where the section below is not LIVE, or its load with the truck's
floor in place of its gap grant fits under A, nobody is shed: the truck stays HOLDER, in its old place on the list, and in a
LIVE section its floor is issued; in a LIVE section where that load does not fit it is HOLDER still, or shed: QUEUED or IDLE,
with SHED raised. A change of kind from HANDOVER to EXIT leaves the time cleared, and so the timer, as it was (R56, R63, R66,
R68, R101, R108). That GAP_TIMEOUT changes nothing before that, for an entry that is APPROACHING and for a truck that
has left the queue is the model's choice (notes/assumptions/3.md). -/
def Obligations.GapTimerCancelsCrossing : Prop :=
  (∀ (s : State) (b : BreakId) (t : TruckId), s.running = true →
    (entryOf s.breaks[b].approaches t = none → exec (.gapTimeout b t) s = .next s)
      ∧ ∀ e, entryOf s.breaks[b].approaches t = some e →
        (e.state = .approaching → exec (.gapTimeout b t) s = .next s)
        ∧ ∀ cleared, e.state = .cleared cleared →
          (s.now < cleared + s.settings.breaks[b].gapTimeout → exec (.gapTimeout b t) s = .next s)
          ∧ (cleared + s.settings.breaks[b].gapTimeout ≤ s.now →
              ∃ s', exec (.gapTimeout b t) s = .next s' ∧ entryOf s'.breaks[b].approaches t = none
                ∧ s'.breaks[b].lastCancellation = some { truck := t, time := s.now }
                ∧ s'.breaks[b].lastCompletion = s.breaks[b].lastCompletion
                ∧ s'.events[EventKind.handoverTimeout.code] =
                    s.events[EventKind.handoverTimeout.code].occur (.truck t)))
    ∧ (∀ (s : State) (b : BreakId) (t : TruckId) (e : ApproachEntry) (cleared : Time) (h : Holder), s.running = true →
        s.placesLaw → entryOf s.breaks[b].approaches t = some e → e.state = .cleared cleared →
        cleared + s.settings.breaks[b].gapTimeout ≤ s.now → holderIn s.sections[b].holders t = some h →
        ∃ s', exec (.gapTimeout b t) s = .next s'
          ∧ (∀ amount above, e.kind = .handover amount → sectionAbove b = some above →
              s'.reservedInto above + amount ≤ s.reservedInto above
                ∧ (s'.handoversInto above).length < (s.handoversInto above).length)
          ∧ (s.isLive b = false ∨ s.committed b + s.floorOf t ≤ s.sections[b].available + e.gapGrant →
              s'.truckState t = .holder ∧ (s'.truck? t).bind (fun r => r.sec) = some b
                ∧ (∃ behind, (s'.sections[b].holders.map fun x => x.truck)
                    = (s.sections[b].holders.map fun x => x.truck) ++ behind)
                ∧ ∃ h', holderIn s'.sections[b].holders t = some h' ∧ (s.isLive b = false → h'.issued = h.issued)
                  ∧ (s.isLive b = true → s.floorOf t ≤ h'.issued ∧ h'.issued ≤ h'.target))
          ∧ (s'.truckState t = .holder
              ∨ (s'.truckState t = .queued ∨ s'.truckState t = .idle)
                ∧ s'.events[EventKind.shed.code].flag = true))
    ∧ ∀ (s : State) (b : BreakId) (x : ApproachEntry) (reason : LowerReason) (t : TruckId),
        (entryOf (s.refuse b x reason).breaks[b].approaches t).map (fun e => e.state)
          = (entryOf s.breaks[b].approaches t).map (fun e => e.state)

/-- An entry whose settle time has passed clears: it and its truck are CLEARED, its gap timer starts now, and nothing else of it
changes. The truck is sent CLEAR_TO_CROSS for a HANDOVER entry, or LOWER(EXIT) with the break for an EXIT entry, on each lane
that carries telegrams to trucks. No pass runs, so no section, queue or feeder record changes (R100, R155). That the command
changes nothing before the settle time has passed is the model's choice (notes/assumptions/3.md). -/
def Obligations.ClearanceClearsEntry : Prop :=
  ∀ (s : State) (b : BreakId) (t : TruckId) (e : ApproachEntry), s.running = true →
    entryOf s.breaks[b].approaches t = some e → e.state = .approaching →
    (s.now < e.approachTime + s.settings.breaks[b].settleTime → exec (.clearance b t) s = .next s)
      ∧ (e.approachTime + s.settings.breaks[b].settleTime ≤ s.now →
        ∃ s', exec (.clearance b t) s = .next s'
          ∧ entryOf s'.breaks[b].approaches t = some { e with state := .cleared s.now }
          ∧ s'.sections = s.sections ∧ s'.queues = s.queues ∧ s'.feeders = s.feeders ∧ s'.events = s.events
          ∧ s'.roster = s.roster.map (fun r => if r.id = t then { r with state := .cleared } else r)
          ∧ ∀ m : LaneId, s'.lanes[m] =
              if s.carriesLane m then
                s.lanes[m].offer
                  { dest := t, urgent := !e.isHandover, answer := false
                    payload := if e.isHandover then .clearToCross b else .lower .exit (some b) }
              else s.lanes[m])

/-- A change of level at a gap input that is read is an edge: the new level is the reference level. An edge that is not of the
selected kind changes nothing else, and neither does one within the dead time of the last accepted edge; a selected edge in
TELEGRAM mode, the dead time having passed, also sets the last accepted edge time and changes nothing else. In the other modes
the sensor passage is absorbed by a completion by telegram within the evidence window; or it completes the oldest entry,
early if that is still APPROACHING; or, with no entry, it is a late crossing of the truck whose crossing was cancelled within the
late window; or, with no such truck either, it is unclaimed: UNCLAIMED_PASSAGE is raised with the break, and no section, queue,
truck or entry changes. A
late crossing takes the truck off the list below. It is IDLE at the crest, or below a section out of service; below a section
that is in service and not LIVE it is queued at the head with SHED rank, unless it is silent; below a LIVE section where its
floor fits, with a slot free, it is a holder there with an issued grant of its floor (R13, R14, R15, R102, R105, R106, R109,
R110). -/
def Obligations.EdgeMovesReferenceLevel : Prop :=
  ∀ (s : State) (b : BreakId) (gap : Nat) (high : Bool), s.running = true → s.positionsTold → gap = breakNumber b →
    s.gapRead b = true → s.breaks[b].reference = some (!high) →
    (edgeSelected s.settings.breaks[b].edgeSelect high = false →
        exec (.gapInputEdge gap high) s = .next
          ((s.setGapPin b high).onBreak b fun r => { r with reference := some high }))
      ∧ (edgeSelected s.settings.breaks[b].edgeSelect high = true → s.settings.breaks[b].evidenceMode = .telegram →
        exec (.gapInputEdge gap high) s = .next
          ((s.setGapPin b high).onBreak b fun r =>
            { r with
              reference := some high
              lastEdge := if s.passageForms b then some s.now else r.lastEdge }))
      ∧ (edgeSelected s.settings.breaks[b].edgeSelect high = true → s.settings.breaks[b].evidenceMode ≠ .telegram →
        s.breaks[b].lastEdge = none → s.breaks[b].approaches = [] → s.breaks[b].lastCancellation = none →
        s.breaks[b].lastCompletion = none →
        ∃ s', exec (.gapInputEdge gap high) s = .next s'
          ∧ s'.events[EventKind.unclaimedPassage.code] = s.events[EventKind.unclaimedPassage.code].occur (.brk b)
          ∧ s'.breaks[b] = { s.breaks[b] with reference := some high, lastEdge := some s.now }
          ∧ s'.sections = s.sections ∧ s'.queues = s.queues ∧ s'.roster = s.roster ∧ s'.feeders = s.feeders)
      ∧ (edgeSelected s.settings.breaks[b].edgeSelect high = true →
        (∃ x, s.breaks[b].lastEdge = some x ∧ s.now < x + s.settings.breaks[b].deadTime) →
        exec (.gapInputEdge gap high) s = .next
          ((s.setGapPin b high).onBreak b fun r => { r with reference := some high }))
      ∧ (edgeSelected s.settings.breaks[b].edgeSelect high = true → s.settings.breaks[b].evidenceMode ≠ .telegram →
        (∀ x, s.breaks[b].lastEdge = some x → x + s.settings.breaks[b].deadTime ≤ s.now) →
        (∀ c, s.breaks[b].lastCompletion = some c → c.evidence = .telegram →
          s.now < c.time + s.settings.breaks[b].evidenceWindow → c.edgeAbsorbed = false →
          exec (.gapInputEdge gap high) s = .next
            ((s.setGapPin b high).onBreak b fun r =>
              { r with
                reference := some high
                lastEdge := some s.now
                lastCompletion := some { c with edgeAbsorbed := true } }))
        ∧ ((∀ c, s.breaks[b].lastCompletion = some c → c.evidence = .telegram →
              s.now < c.time + s.settings.breaks[b].evidenceWindow → c.edgeAbsorbed = true) →
          s.placesLaw →
          (∀ e rest, s.breaks[b].approaches = e :: rest →
            ∃ s', exec (.gapInputEdge gap high) s = .next s'
              ∧ (s'.breaks[b].approaches.map fun x => x.truck) = (rest.map fun x => x.truck)
              ∧ s'.breaks[b].reference = some high ∧ s'.breaks[b].lastEdge = some s.now
              ∧ s'.breaks[b].lastCompletion =
                  some { truck := e.truck, evidence := .sensor, time := s.now, edgeAbsorbed := false }
              ∧ s'.events[EventKind.earlyCrossing.code] =
                  (if e.isCleared then s.events[EventKind.earlyCrossing.code]
                   else s.events[EventKind.earlyCrossing.code].occur (.truck e.truck))
              ∧ holderIn s'.sections[b].holders e.truck = none
              ∧ (e.kind = .exit → s'.truckState e.truck = .idle))
          ∧ (s.breaks[b].approaches = [] →
            (∀ c, s.breaks[b].lastCancellation = some c →
              c.time + s.settings.breaks[b].lateWindow ≤ s.now ∨ s.isOrdinary c.truck = false
                ∨ holderIn s.sections[b].holders c.truck = none) →
            ∃ s', exec (.gapInputEdge gap high) s = .next s'
              ∧ s'.events[EventKind.unclaimedPassage.code] =
                  s.events[EventKind.unclaimedPassage.code].occur (.brk b)
              ∧ s'.breaks[b] = { s.breaks[b] with reference := some high, lastEdge := some s.now }
              ∧ (∀ j : BreakId, j ≠ b → s'.breaks[j] = s.breaks[j])
              ∧ s'.sections = s.sections ∧ s'.queues = s.queues ∧ s'.roster = s.roster ∧ s'.feeders = s.feeders)
          ∧ (∀ c h, s.breaks[b].approaches = [] → s.breaks[b].lastCancellation = some c →
            s.now < c.time + s.settings.breaks[b].lateWindow → s.isOrdinary c.truck = true →
            holderIn s.sections[b].holders c.truck = some h →
            ∃ s', exec (.gapInputEdge gap high) s = .next s'
              ∧ s'.events[EventKind.lateCrossing.code] =
                  s.events[EventKind.lateCrossing.code].occur (.truck c.truck)
              ∧ s'.breaks[b].reference = some high ∧ s'.breaks[b].lastEdge = some s.now
              ∧ s'.breaks[b].lastCompletion =
                  some { truck := c.truck, evidence := .sensor, time := s.now, edgeAbsorbed := false }
              ∧ holderIn s'.sections[b].holders c.truck = none
              ∧ (s.isCrest b = true ∨ sectionAbove b = none → s'.truckState c.truck = .idle)
              ∧ ∀ above, sectionAbove b = some above → s.isCrest b = false →
                (s.inService above = false → s'.truckState c.truck = .idle)
                ∧ (s.inService above = true → s.isLive above = false → s.isSilent c.truck = false →
                    s'.truckState c.truck = .queued
                      ∧ s'.queues[above].head? =
                          some { truck := c.truck, rank := .shed, reported := some 1 })
                ∧ (s.isLive above = true → s.slotFree above = true →
                    s.committed above + s.floorOf c.truck ≤ s.sections[above].available →
                    s'.truckState c.truck = .holder
                      ∧ ∃ h', holderIn s'.sections[above].holders c.truck = some h'
                          ∧ h'.issued = s.floorOf c.truck))))

/-! ## Feeder supervision -/

/-- The breaker state of a report sets the state of a section in service: CLOSED makes it LIVE, and any other state DEAD, OPEN
and TRIPPED alike. LOCKED_OUT ends any restore window at once (R126). -/
def Obligations.BreakerStateSetsSection : Prop :=
  ∀ (s : State) (l : LaneId) (k : SectionId) (feeder : Octet) (breaker : BreakerState)
    (capacity current volts : BitVec 16),
    s.laneOfRole .feeder = some l → s.atHead l 0xF1 (.feederReport feeder breaker capacity current volts) →
    feeder.toNat = k.val → s.inService k = true →
    ∃ t, exec (.feederReport feeder breaker capacity current volts) s = .next t
      ∧ t.sections[k].state = (if breaker = .closed then .live else .dead)
      ∧ (breaker = .lockedOut → t.feeders[k].restoreEnd = none)
      ∧ ∀ j : SectionId, j ≠ k → t.sections[j].state = s.sections[j].state

/-- A report with the breaker CLOSED makes the record FRESH with the report's figures, each at most the top of its range; the
effective capacity is worked out from them, A from it, and the overdraw state of a section that was LIVE is judged against
them (R6, R123, R124, R137). -/
def Obligations.ClosedReportSetsCapacity : Prop :=
  ∀ (s : State) (l : LaneId) (k : SectionId) (feeder : Octet) (capacity current volts : BitVec 16),
    s.laneOfRole .feeder = some l → s.atHead l 0xF1 (.feederReport feeder .closed capacity current volts) →
    feeder.toNat = k.val → s.inService k = true →
    ∃ t, exec (.feederReport feeder .closed capacity current volts) s = .next t
      ∧ t.feeders[k].lastReport = some
          { breaker := .closed, capacity := min capacity.toNat 12000, current := min current.toNat 15000,
            volts := min volts.toNat 4000 }
      ∧ t.feeders[k].age = .fresh
      ∧ t.feeders[k].effective =
          (let base := min (min capacity.toNat 12000) s.settings.sections[k].rating
           let v := min volts.toNat 4000
           let knee := s.settings.sections[k].knee
           let cut := s.settings.sections[k].cut
           if knee ≤ v then base / 25 * 25 else if v ≤ cut then 0 else base * (v - cut) / (knee - cut) / 25 * 25)
      ∧ t.sections[k].available = t.feeders[k].effective - s.settings.sections[k].margin
      ∧ t.feeders[k].overdraw =
          (if s.isLive k then
            overdrawAfter s.settings.sections[k].overdrawPersistence s.now
              (decide (issuedSum s.sections[k].holders + s.settings.sections[k].overdrawTolerance
                < min current.toNat 15000)) s.feeders[k].overdraw
           else s.feeders[k].overdraw)

/-- A report with the breaker OPEN or TRIPPED for a LIVE section with holders, and a restore window above 0, suspends every
holder at a grant and target of 0, empties the section's ramp queue and the break above it, clears its overdraw state and
starts its restore window; its effective capacity, A and spare are 0, and SECTION_DEAD is raised. The section's holders stand
in no queue and on no other holder list, as in every state that a run reaches (R114, R131). -/
def Obligations.TripSuspendsHolders : Prop :=
  ∀ (s : State) (l : LaneId) (k : SectionId) (feeder : Octet) (breaker : BreakerState)
    (capacity current volts : BitVec 16) (h : Holder) (r : Truck),
    s.laneOfRole .feeder = some l → s.atHead l 0xF1 (.feederReport feeder breaker capacity current volts) →
    feeder.toNat = k.val → s.isLive k = true → (breaker = .openState ∨ breaker = .tripped) →
    h ∈ s.sections[k].holders → s.truck? h.truck = some r → s.settings.restoreWindow ≠ 0 →
    (∀ x ∈ s.sections[k].holders,
      (∀ j : SectionId, ∀ e ∈ s.queues[j], e.truck ≠ x.truck)
        ∧ ∀ j : SectionId, j ≠ k → ∀ y ∈ s.sections[j].holders, y.truck ≠ x.truck) →
    ∃ t, exec (.feederReport feeder breaker capacity current volts) s = .next t
      ∧ (t.sections[k].holders.map fun x => x.truck) = (s.sections[k].holders.map fun x => x.truck)
      ∧ (∀ x ∈ t.sections[k].holders, x.issued = 0 ∧ x.target = 0)
      ∧ t.isSuspended h.truck = true
      ∧ t.sections[k].state = .dead
      ∧ t.sections[k].ramp = [] ∧ t.breaks[k].approaches = []
      ∧ t.feeders[k].effective = 0 ∧ t.sections[k].available = 0 ∧ t.sections[k].spare = 0
      ∧ t.feeders[k].overdraw = .clear ∧ t.feeders[k].nextTurn = none
      ∧ t.feeders[k].restoreEnd = some (s.now + s.settings.restoreWindow)
      ∧ t.events[EventKind.sectionDead.code] = s.events[EventKind.sectionDead.code].occur (.sec k)

/-- When the hold timer has run, every HELD record is DERATED, its effective capacity the fallback percentage of what it was,
rounded down to the quantum; a record that is not HELD is unchanged, and the timer is idle (R129, R130). -/
def Obligations.HoldExpiryDeratesRecords : Prop :=
  ∀ (s : State) (start : Time), s.running = true → s.holdTimer = some start →
    start + s.settings.feederHoldTime ≤ s.now →
    ∃ t, exec .feederHoldExpiry s = .next t ∧ t.holdTimer = none ∧ t.roster = s.roster ∧ t.breaks = s.breaks
      ∧ ∀ k : SectionId,
          (s.feeders[k].age ≠ .held → t.feeders[k] = s.feeders[k] ∧ t.sections[k] = s.sections[k])
          ∧ (s.feeders[k].age = .held → t.feeders[k].age = .derated
            ∧ (s.isLive k = true → t.feeders[k].effective =
                s.feeders[k].effective * s.settings.fallbackPercentage / 100 / 25 * 25)
            ∧ t.sections[k].state = s.sections[k].state
            ∧ t.sections[k].holders = s.sections[k].holders)

/-- A restore turn takes the oldest SUSPENDED holder out of suspension, and the next turn is the increase spacing from now
if SUSPENDED holders remain, else none; where the section's committed load fits, so that its pass sheds nobody, the truck is
HOLDER again with at least its floor issued. At the end of the restore window of a DEAD section no SUSPENDED holder is left on it,
RESTORE_LAPSED is raised, the section stays DEAD with its queue, and the window is over; the holders with a record stand in
that section alone, as in every state that a run reaches (R68, R134, R135). -/
def Obligations.RestoreTurnsAndLapse : Prop :=
  (∀ (s : State) (k : SectionId) (t : TruckId), s.running = true → s.turnDue k = true →
    s.oldestSuspended k = some t →
    ∃ s', exec (.restoreTurn k) s = .next s' ∧ s'.isSuspended t = false
      ∧ s'.feeders[k].nextTurn =
          (if s'.hasSuspended k then some (s.now + s.settings.sections[k].increaseSpacing) else none)
      ∧ (∀ x : TruckId, s'.isSuspended x = true → s.isSuspended x = true)
      ∧ (s.committed k ≤ s.sections[k].available →
          s'.truckState t = .holder
            ∧ ∃ h, holderIn s'.sections[k].holders t = some h ∧ s.floorOf t ≤ h.issued))
  ∧ (∀ (s : State) (k : SectionId), s.running = true → s.positionsTold → s.lapseDue k = true →
    (∀ h ∈ s.sections[k].holders, (∀ r ∈ s.truck? h.truck, r.sec = some k) ∧
      ∀ e ∈ s.queues[k], e.truck ≠ h.truck) →
    (∀ e ∈ s.breaks[k].approaches, e.isHandover = false) →
    ∃ t, exec (.restoreLapse k) s = .next t ∧ t.hasSuspended k = false ∧ t.sections[k].state = .dead
      ∧ (∀ x : TruckId, s.isSuspended x = true → (∃ h ∈ s.sections[k].holders, h.truck = x) →
          t.truckState x = .idle)
      ∧ t.queues = s.queues ∧ t.feeders[k].restoreEnd = none
      ∧ t.events[EventKind.restoreLapsed.code] = s.events[EventKind.restoreLapsed.code].occur (.sec k))

/-! ## Supervisory commands -/

/-- CONFIG_OPEN with the part's own identity opens the window with its timer started now and is answered ACCEPTED; with any other
it is answered WRONG_CABINET and the window stays as it was. CONFIG_CLOSE closes it and is answered ACCEPTED (R158). -/
def Obligations.ConfigWindowOpensAndCloses : Prop :=
  (∀ (s : State) (l : LaneId) (identity : BitVec 48), s.superTakes l (.configOpen identity) →
      exec (.configOpen identity) s = .next
        (if identity = Config.cabinetIdentity then
          ({ s.popRx l with windowTimer := some s.now }).reply .accepted typeConfigOpen
         else (s.superTaken l).reply .wrongCabinet typeConfigOpen))
    ∧ (∀ (s : State) (l : LaneId), s.superTakes l .configClose →
      exec .configClose s = .next (({ s.popRx l with windowTimer := none }).reply .accepted typeConfigClose))

/-- A SET that fails a check is answered by the first check that fails, in the order item, window, store, lock, set, and
changes nothing (R159, R163). -/
def Obligations.SetRefusedInOrder : Prop :=
  ∀ (s : State) (l : LaneId) (item : Octet) (members : MemberSet) (value : BitVec 32) (code : ReplyCode),
    s.superTakes l (.setItem item members value) → s.setAnswer item members = some code →
    exec (.setItem item members value) s = .next ((s.superTaken l).reply code typeSet item)

/-- What a SET that passes its checks writes. The margin: every listed section takes it, clamped to 3,000 A and rounded down to
the quantum, and no other; a LIVE section whose margin changed has A worked out from it and a pass pending; nothing else of
the settings changes. Every other item of a section alike: a changed rating, knee or cut of a LIVE section with a FRESH or HELD
report has its effective capacity worked out again, and a pass pending where that changed. A class field: each listed
class takes it in the order floor ≤ fixed grant ≤ ceiling ≤ boost ceiling, a changed limit clamps the demands of its trucks
again, a boost limit of 0 ends their boosts, and LIVE sections that hold one have a pass pending. The section count and the
enabled field: sections leave and enter service. A lane's role: the lane that held it is UNUSED, and both are AWAIT with
nothing received. An item of a break, a lane's line rate or silence limit, and an item held once for the part: the listed
members take it in its range and nothing but the lanes changes, save that the gap input enable drops the reference level, and a
new pairing mode empties the slots. The REPLY is ACCEPTED where the lowest-numbered member took the value written, else CLAMPED,
with the value taken; so a knee written at exactly 25 V above the cut is ACCEPTED (R1, R2, R4 to R7, R12 to R14, R22 to R24, R31, R34, R36,
R50, R61, R94, R122, R125, R142, R143, R152, R156, R160, R167, R170). The model's reading: passes a SET calls for wait as events
of their own (notes/assumptions/5.md), the lane that held a role gives it up first (12.md), member k of a set of breaks is Bk
(15.md), 'at once' is a due event of its own (17.md), the gap input enable (22.md), R160 over R125 there (36.md), the
bits of a mask (39.md). -/
def Obligations.SetMarginOverSections : Prop :=
  (∀ (s : State) (l : LaneId) (members : MemberSet) (value : BitVec 32),
      s.superTakes l (.setItem 0x12 members value) → s.setAnswer 0x12 members = none →
      ∃ t, exec (.setItem 0x12 members value) s = .next t
        ∧ t.settings = { s.settings with sections := t.settings.sections }
        ∧ ∀ k : SectionId,
            t.settings.sections[k] =
              (if MemberSet.lists members k.val then
                { s.settings.sections[k] with margin := min value.toNat 3000 / 25 * 25 }
               else s.settings.sections[k])
            ∧ t.sections[k].holders = s.sections[k].holders
            ∧ t.feeders[k].effective = (if t.settings.sections[k] = s.settings.sections[k] ∨ s.isLive k = true
                then s.feeders[k].effective else 0)
            ∧ (s.isLive k = true → t.settings.sections[k] ≠ s.settings.sections[k] →
                t.sections[k].available = s.feeders[k].effective - t.settings.sections[k].margin
                  ∧ t.sections[k].passPending = true)
            ∧ (t.settings.sections[k] = s.settings.sections[k] → t.sections[k] = s.sections[k]))
  ∧ (∀ (s : State) (l : LaneId) (item : Octet) (members : MemberSet) (value : BitVec 32) (i : SectionItem),
    s.superTakes l (.setItem item members value) → s.setAnswer item members = none →
    itemOfCode item.toNat = some (.sec i) → i ≠ .enabled →
    ∃ t, exec (.setItem item members value) s = .next t
      ∧ t.settings = { s.settings with sections := t.settings.sections }
      ∧ ∀ k : SectionId,
          t.settings.sections[k] =
            (if MemberSet.lists members k.val then s.settings.sections[k].afterSet value.toNat i
             else s.settings.sections[k])
          ∧ t.sections[k].holders = s.sections[k].holders
          ∧ ∀ f, (i = .rating ∨ i = .knee ∨ i = .cut) → t.settings.sections[k] ≠ s.settings.sections[k] →
              s.isLive k = true → (s.feeders[k].age = .fresh ∨ s.feeders[k].age = .held) →
              s.feeders[k].lastReport = some f →
              t.feeders[k].effective = effectiveCapacity t.settings.sections[k] f
                ∧ (t.feeders[k].effective ≠ s.feeders[k].effective →
                    t.sections[k].available = t.feeders[k].effective - s.settings.sections[k].margin
                      ∧ t.sections[k].passPending = true))
  ∧ (∀ (s : State) (l : LaneId) (item : Octet) (members : MemberSet) (value : BitVec 32) (i : ClassItem),
    s.superTakes l (.setItem item members value) → s.setAnswer item members = none →
    itemOfCode item.toNat = some (.cls i) →
    ∃ t, exec (.setItem item members value) s = .next t
      ∧ t.settings = { s.settings with classes := t.settings.classes }
      ∧ (∀ c : ClassId, t.settings.classes[c] =
          if MemberSet.lists members c.val then s.settings.classes[c].afterSet value.toNat i
          else s.settings.classes[c])
      ∧ (∀ (x : TruckId) (r : Truck), s.truck? x = some r → t.settings.classes[r.cls] ≠ s.settings.classes[r.cls] →
          ∃ r', t.truck? x = some r'
            ∧ ((i = .floor ∨ i = .ceiling ∨ i = .boostCeiling) →
                r'.applied = clampTo t.settings.classes[r.cls].floor
                  (if r.boost.isActive then t.settings.classes[r.cls].boostCeiling
                   else t.settings.classes[r.cls].ceiling) r.requested)
            ∧ (i = .boostLimit → t.settings.classes[r.cls].boostLimit = 0 → r'.boost.isActive = false)
            ∧ ∀ k : SectionId, s.isLive k = true → (∃ h ∈ s.sections[k].holders, h.truck = x) →
                i ≠ .rampProfile → i ≠ .boostCooldown → t.sections[k].passPending = true))
  ∧ (∀ (s : State) (l : LaneId) (members : MemberSet) (value : BitVec 32), s.serviceLaw → s.placesLaw →
    (s.superTakes l (.setItem 0x01 members value) → s.setAnswer 0x01 members = none →
      ∃ t, exec (.setItem 0x01 members value) s = .next t
        ∧ t.settings = { s.settings with sectionCount := max 1 (min value.toNat 6) } ∧ s.serviceMoves t
        ∧ ((s.superTaken l).lanes[l].offer
            (setReply (if 1 ≤ value.toNat ∧ value.toNat ≤ 6 then .accepted else .clamped) 0x01
              (.word (max 1 (min value.toNat 6))))).tx <+: t.lanes[l].tx)
    ∧ (s.superTakes l (.setItem 0x10 members value) → s.setAnswer 0x10 members = none →
      ∃ t, exec (.setItem 0x10 members value) s = .next t
        ∧ t.settings = { s.settings with sections := t.settings.sections }
        ∧ (∀ k : SectionId, t.settings.sections[k] =
            if MemberSet.lists members k.val then s.settings.sections[k].afterSet value.toNat .enabled
            else s.settings.sections[k])
        ∧ s.serviceMoves t
        ∧ ((s.superTaken l).lanes[l].offer
            (setReply (if value.toNat ≤ 1 then .accepted else .clamped) 0x10 (.word (min value.toNat 1)))).tx
          <+: t.lanes[l].tx))
  ∧ (∀ (s : State) (l m : LaneId) (members : MemberSet) (value : BitVec 32),
    s.superTakes l (.setItem 0x40 members value) → s.setAnswer 0x40 members = none → s.settings.rolesUnique →
    MemberSet.lanes members = [m] →
    ∃ t, exec (.setItem 0x40 members value) s = .next t
      ∧ t.settings = { s.settings with lanes := t.settings.lanes }
      ∧ t.settings.lanes[m].role.code = min value.toNat 4
      ∧ (∀ j : LaneId, t.laneOfRole .supervisory = some j →
          (if j = l then
            ((s.superTaken l).lanes[l].offer
              (setReply (if value.toNat ≤ 4 then .accepted else .clamped) 0x40 (.word (min value.toNat 4)))).tx
           else [setReply (if value.toNat ≤ 4 then .accepted else .clamped) 0x40 (.word (min value.toNat 4))])
          <+: t.lanes[j].tx)
      ∧ (∀ j : LaneId,
          t.settings.lanes[j] = { s.settings.lanes[j] with role := t.settings.lanes[j].role }
          ∧ (j ≠ m → t.settings.lanes[j].role =
              if s.settings.lanes[j].role = t.settings.lanes[m].role then .unused else s.settings.lanes[j].role)
          ∧ (t.settings.lanes[j].role ≠ s.settings.lanes[j].role →
              t.lanes[j].state = .await ∧ t.lanes[j].silenceStart = s.now ∧ t.lanes[j].rx = []
                ∧ t.lanes[j].partialFrame = [])))
  ∧ (∀ (s : State) (l : LaneId) (item : Octet) (members : MemberSet) (value : BitVec 32) (i : BreakItem),
    s.superTakes l (.setItem item members value) → s.setAnswer item members = none →
    itemOfCode item.toNat = some (.brk i) →
    ∃ t, exec (.setItem item members value) s = .next t
      ∧ t = { s.superTaken l with settings := t.settings, breaks := t.breaks, lanes := t.lanes }
      ∧ t.settings = { s.settings with breaks := t.settings.breaks }
      ∧ ∀ b : BreakId,
          t.settings.breaks[b] =
            (if MemberSet.lists members (breakNumber b) then s.settings.breaks[b].afterSet value.toNat i
             else s.settings.breaks[b])
          ∧ t.breaks[b] =
            (if i = .gapEnabled ∧ MemberSet.lists members (breakNumber b) = true then
              { s.breaks[b] with
                reference := none
                lastEdge := if value.toNat = 0 then none else s.breaks[b].lastEdge }
             else s.breaks[b]))
  ∧ (∀ (s : State) (l : LaneId) (item : Octet) (members : MemberSet) (value : BitVec 32) (i : PartItem),
    s.superTakes l (.setItem item members value) → s.setAnswer item members = none →
    itemOfCode item.toNat = some (.part i) → i ≠ .sectionCount →
    ∃ t, exec (.setItem item members value) s = .next t
      ∧ t.settings = s.settings.afterSet value.toNat i
      ∧ t = { s.superTaken l with
          settings := t.settings
          lanes := t.lanes
          degraded := t.degraded
          roster := if t.settings.pairingMode = s.settings.pairingMode then s.roster
            else s.roster.map fun r => { r with slot := none } }
      ∧ (i ≠ .pairingMode → t.degraded = s.degraded)
      ∧ ∀ m : LaneId,
          let copies := (s.roster.filter fun r => r.slot.any fun c => c.lane == m).length
          s.lanes[m].counts.unpaired + copies ≤ 65535 →
            t.lanes[m].counts.unpaired = s.lanes[m].counts.unpaired +
              if s.settings.pairingMode = .both ∧ t.settings.pairingMode ≠ .both then copies else 0)
  ∧ (∀ (s : State) (l : LaneId) (item : Octet) (members : MemberSet) (value : BitVec 32),
    s.superTakes l (.setItem item members value) → s.setAnswer item members = none →
    item = 0x41 ∨ item = 0x42 →
    ∃ t, exec (.setItem item members value) s = .next t
      ∧ t = { s.superTaken l with settings := t.settings, lanes := t.lanes }
      ∧ t.settings = { s.settings with lanes := t.settings.lanes }
      ∧ ∀ m : LaneId,
          (item = 0x42 → t.settings.lanes[m] =
            (if MemberSet.lists members m.val then
              { s.settings.lanes[m] with silenceLimit := max 200 (min value.toNat 30000) }
             else s.settings.lanes[m]))
          ∧ ∀ rate, item = 0x41 → isRateFor value.toNat rate → t.settings.lanes[m] =
            (if MemberSet.lists members m.val then { s.settings.lanes[m] with lineRate := rate }
             else s.settings.lanes[m]))
  ∧ ∀ (s : State) (l : LaneId) (item : Octet) (members : MemberSet) (value : BitVec 32) (i : Item) (first : Member)
      (rest : List Member),
    s.superTakes l (.setItem item members value) → s.setAnswer item members = none →
    itemOfCode item.toNat = some i → i.members members = first :: rest →
    i ≠ .part .sectionCount → i ≠ .sec .enabled → i ≠ .lane .role →
    ∃ t code, exec (.setItem item members value) s = .next t
      ∧ (code = .accepted ∨ code = .clamped)
      ∧ (code = .accepted ↔ t.readItem i first = .word value.toNat)
      ∧ ∀ m : LaneId, t.lanes[m].tx =
          if m = l then ((s.superTaken l).lanes[l].offer (setReply code item (t.readItem i first))).tx
          else s.lanes[m].tx

/-- A GET of an item the part holds, its set not empty, is answered ACCEPTED with the value of the lowest-numbered member, and
changes nothing; it needs no window and no clear lock cell (R159, R160). In the value of an event record the bits that R169 does not
give are 0 by the model's choice (notes/assumptions/42.md). -/
def Obligations.GetReadsLowestMember : Prop :=
  ∀ (s : State) (l : LaneId) (item : Octet) (members : MemberSet) (i : Item) (first : Member) (rest : List Member),
    s.superTakes l (.getItem item members) → itemOfCode item.toNat = some i → i.members members = first :: rest →
    exec (.getItem item members) s = .next
      ((s.superTaken l).reply .accepted typeGet item (some (s.readItem i first)))

/-- SET_MODE writes the mode of every listed section and of no other, whatever the window, the store and the lock cell; no other
setting changes (R11). -/
def Obligations.SetModeWritesModes : Prop :=
  ∀ (s : State) (l : LaneId) (members : MemberSet) (mode : Mode), s.superTakes l (.setMode members mode) →
    ∃ t, exec (.setMode members mode) s = .next t
      ∧ t.settings = { s.settings with sections := t.settings.sections }
      ∧ ∀ k : SectionId, t.settings.sections[k] =
          (if MemberSet.lists members k.val then { s.settings.sections[k] with mode := mode }
           else s.settings.sections[k])

/-- ENROL of a new truck address with a class up to 3, in an open window with no store in progress, appends its record to a roster
of fewer than 32 and is answered ACCEPTED; at 32 records it is answered ROSTER_FULL and changes nothing. UNENROL removes the
truck's record, with its pairing slot, and no other record; each other truck keeps its class (R17, R19, R20). -/
def Obligations.EnrolMakesAndUnenrolRemovesRecord : Prop :=
  (∀ (s : State) (l : LaneId) (truck : TruckId) (classNo : Octet) (cls : ClassId),
    s.superTakes l (.enrol truck classNo) → s.windowOpen = true → s.storeJob = none →
    isTruckAddress truck = true → s.truck? truck = none → classNo.toNat = cls.val →
    exec (.enrol truck classNo) s = .next
      (if s.roster.length < 32 then
        ({ s.superTaken l with
            roster := s.roster ++ [Truck.fresh truck cls s.settings.classes[cls].floor] }).reply .accepted typeEnrol
       else (s.superTaken l).reply .rosterFull typeEnrol))
  ∧ (∀ (s : State) (l : LaneId) (truck : TruckId) (r : Truck),
    s.superTakes l (.unenrol truck) → s.windowOpen = true → s.storeJob = none → s.truck? truck = some r →
    ∃ t, exec (.unenrol truck) s = .next t ∧ t.truck? truck = none
      ∧ (t.roster.map fun x => (x.id, x.cls)) = ((s.roster.filter fun x => x.id ≠ truck).map fun x => (x.id, x.cls)))

/-- READ_TABLE is answered with the TABLE_IMAGE of each listed section, in section order, each as the section stands, and
changes nothing; an empty set is answered EMPTY_SET. An image carries the section's state, mode, effective capacity, A and
spare; its holders, oldest first, each with its roster state, issued grant, target and applied demand; the entries at the break
below it, oldest first, each with its reservation, if it is HANDOVER, its state and gap grant, none for S0 and a section out of
service; and its queue, head first, each with its position and rank (R53, R77, R120, R161). -/
def Obligations.ReadTableShowsSections : Prop :=
  (∀ (s : State) (l : LaneId) (members : MemberSet), s.superTakes l (.readTable members) →
    exec (.readTable members) s = .next
      (if MemberSet.sections members = [] then (s.superTaken l).reply .emptySet typeReadTable
       else ((MemberSet.sections members).map s.tableImage).foldl State.sendImage (s.superTaken l)))
  ∧ ∀ (s : State) (l : LaneId) (members : MemberSet), s.superTakes l (.readTable members) →
    (∃ k : SectionId, MemberSet.lists members k.val = true) →
    ∃ images : List TableImage,
      exec (.readTable members) s = .next ((s.superTaken l).onLane l fun p =>
        images.foldl (fun p image => p.offer
          { dest := 0xF0, urgent := false, answer := true, payload := .tableImage image }) p)
      ∧ (images.map fun i => i.sec) = (allSections.filter fun k => MemberSet.lists members k.val)
      ∧ ∀ i ∈ images,
          i.state = s.sections[i.sec].state ∧ i.mode = s.settings.sections[i.sec].mode
          ∧ i.effective = s.feeders[i.sec].effective ∧ i.available = s.sections[i.sec].available
          ∧ i.spare = s.sections[i.sec].spare
          ∧ i.holders.length = s.sections[i.sec].holders.length
          ∧ (∀ p ∈ i.holders.zip s.sections[i.sec].holders,
              p.1.truck = p.2.truck ∧ p.1.issued = p.2.issued ∧ p.1.target = p.2.target
                ∧ ∀ r, s.truck? p.2.truck = some r → p.1.state = r.state ∧ p.1.applied = r.applied)
          ∧ (i.sec.val = 0 ∨ s.inService i.sec = false → i.approaches = [])
          ∧ (∀ below : BreakId, below.val + 1 = i.sec.val → s.inService i.sec = true →
              i.approaches.length = s.breaks[below].approaches.length
              ∧ ∀ p ∈ i.approaches.zip s.breaks[below].approaches,
                  p.1.truck = p.2.truck ∧ p.1.gapGrant = p.2.gapGrant
                    ∧ (∀ amount, p.2.kind = .handover amount → p.1.reservation = some amount)
                    ∧ (p.2.kind = .exit → p.1.reservation = none)
                    ∧ (p.2.state = .approaching → p.1.isCleared = false)
                    ∧ ∀ time, p.2.state = .cleared time → p.1.isCleared = true)
          ∧ ∀ n : Nat, i.queue[n]? = s.queues[i.sec][n]?.map fun e =>
              { position := n + 1, truck := e.truck, rank := e.rank }

/-- CLEAR_EVENTS copies the record of every listed kind into its last-cleared copy and clears it, and touches no other kind
(R166). -/
def Obligations.ClearEventsCopiesAndClears : Prop :=
  ∀ (s : State) (l : LaneId) (members : MemberSet), s.superTakes l (.clearEvents members) →
    ∃ t, exec (.clearEvents members) s = .next t
      ∧ (∀ e : EventKind,
          t.events[e.code] =
            (if MemberSet.lists members e.code.val then EventRecord.clear else s.events[e.code])
          ∧ t.lastCleared[e.code] =
            (if MemberSet.lists members e.code.val then s.events[e.code] else s.lastCleared[e.code]))
      ∧ t.settings = s.settings ∧ t.sections = s.sections ∧ t.queues = s.queues ∧ t.roster = s.roster
      ∧ t.breaks = s.breaks ∧ t.feeders = s.feeders ∧ t.windowTimer = (s.superTaken l).windowTimer

/-- STORE in an open window with none in progress begins a store of the present settings and enrolments that takes more than 0 and
at most 600 ms, and is not answered yet; its completion leaves the settings store holding that image and answers ACCEPTED
(R162). -/
def Obligations.StoreRunsToCompletion : Prop :=
  (∀ (s : State) (l : LaneId), s.superTakes l .store → s.windowOpen = true → s.storeJob = none →
      ∃ job, 0 < job.duration ∧ job.duration ≤ 600 ∧ job.started = s.now
        ∧ job.image = { settings := s.settings, roster := s.roster.map fun r => { truck := r.id, cls := r.cls } }
        ∧ exec .store s = .next
            { s.superTaken l with storeJob := some job, storesTaken := s.storesTaken + 1 })
    ∧ (∀ (s : State) (job : StoreJob), s.running = true → s.storeJob = some job → job.started < s.now →
      exec .storeCompletion s = .next
        (({ s with storeCell := .holding job.image, storeJob := none }).reply .accepted typeStore))

/-- COMMISSION_LOCK in an open window with no store in progress sets the lock cell, set or not, and is answered ACCEPTED; with the
window closed it is answered NOT_OPEN, and during a store BUSY, and the cell stays (R159, R163). -/
def Obligations.CommissionLockSetsCell : Prop :=
  ∀ (s : State) (l : LaneId), s.superTakes l .commissionLock →
    exec .commissionLock s = .next
      (if s.windowTimer = none then (s.superTaken l).reply .notOpen typeCommissionLock
       else if s.storeJob ≠ none then (s.superTaken l).reply .busy typeCommissionLock
       else ({ s.superTaken l with lock := true }).reply .accepted typeCommissionLock)

/-- The resync window closes at its end, the configuration window 60 s after its timer's last start, and neither changes
anything else; the refresh timer restarts at its end and calls for a pass on every LIVE section (R50, R61, R158). -/
def Obligations.TimersExpire : Prop :=
  (∀ (s : State) (opened : Time), s.running = true → s.resyncOpened = some opened →
      opened + s.settings.resyncWindow ≤ s.now → exec .resyncWindowClose s = .next { s with resyncOpened := none })
    ∧ (∀ (s : State) (start : Time), s.running = true → s.windowTimer = some start → start + 60000 ≤ s.now →
      exec .windowTimerExpiry s = .next { s with windowTimer := none })
    ∧ (∀ s : State, s.running = true → s.refreshStart + s.settings.refreshInterval ≤ s.now →
      ∃ t, exec .refreshTimerExpiry s = .next t
        ∧ t = { s with refreshStart := s.now, sections := t.sections }
        ∧ ∀ k : SectionId, t.sections[k] =
            { s.sections[k] with passPending := s.isLive k || s.sections[k].passPending })

/-! ## Laws of the whole machine -/

/-- Every setting stays in its range and on its quantum, the class limits stay in order, the cut stays 25 V below the knee and each
role keeps at most one lane, and the two subscription masks name kinds 0 to 19 only, through every step (R2, R12, R22, R23,
R94, R122, R125, R142, R143, R160, R167). -/
def Obligations.SettingsStayInRange : Prop :=
  ∀ s t : State, s.settingsLaw → step s = .next t → t.settingsLaw

/-- The roster, and the rosters in the settings store, hold at most 32 trucks, none twice, through every step: the eighth law of
the device (R17). -/
def Obligations.RosterStaysLawful : Prop :=
  ∀ s t : State, s.rosterLaw → step s = .next t → t.rosterLaw

/-- The admission queues, receive queues, transmit queues, lane counts and event records stay in their bounds through every step
(R40, R147, R149, R151, R166). -/
def Obligations.BuffersStayBounded : Prop :=
  ∀ s t : State, s.boundsLaw → step s = .next t → t.boundsLaw

/-- In every section A stays the effective capacity less the margin, and a section that is not LIVE keeps an effective capacity
and a spare of 0, through every step (R3, R6, R60). -/
def Obligations.CapacityFollowsMargin : Prop :=
  ∀ s t : State, s.capacityLaw → step s = .next t → t.capacityLaw

/-- After every command every queued truck has been told the position it stands at (R41). -/
def Obligations.PositionsStayTold : Prop :=
  ∀ s t : State, s.positionsTold → step s = .next t → t.positionsTold

/-- A section is in service exactly when it is enabled and numbered below the section count, through every step (R3, R4, R5). -/
def Obligations.ServiceFollowsSettings : Prop :=
  ∀ s t : State, s.serviceLaw → step s = .next t → t.serviceLaw

/-- The degraded flag is set exactly in BOTH mode while one radio lane is LIVE and the other is not, through every step
(R154). That a radio role which no lane holds counts as not LIVE is the model's reading (notes/assumptions/11.md). -/
def Obligations.DegradedFlagFollowsLanes : Prop :=
  ∀ s t : State, s.degradedLaw → step s = .next t → t.degradedLaw

/-- Each kind of state is changed only by the commands that own it: the settings by SET, SET_MODE and the resets that load the
store; the pins by the pins and the supply; the settings store by STORE_COMPLETION, the supply and the RESET pin; the
configuration window by the supervisory telegrams, its timer and the resets; the resync window and the refresh timer by their
expiries and the resets; the last-cleared copies by CLEAR_EVENTS and the resets (R11, R50, R61, R158, R160, R162, R164 to
R168). That no command moves the timebase or the queue of commands is the model's choice (notes/assumptions/2.md and 30.md,
and 1.md for the timebase at a power-on). That a SET which puts the end of the resync window or of the refresh timer into the
past does not itself close the window or restart the timer, as R50 and R61 could be read, but makes the expiry a due event of
its own, is the model's reading (notes/assumptions/17.md). -/
def Obligations.StateChangesOnlyByItsCommands : Prop :=
  ∀ (c : Instr) (s t : State), exec c s = .next t →
    t.now = s.now ∧ t.pending = s.pending
      ∧ (c.changesSettings = false → t.settings = s.settings)
      ∧ (c.isPin = false → t.pins = s.pins)
      ∧ (c.changesStore = false → t.storeCell = s.storeCell)
      ∧ (c.isSupervisory = false → c.isReset = false → c ≠ .windowTimerExpiry → t.windowTimer = s.windowTimer)
      ∧ (c.isReset = false → c ≠ .resyncWindowClose → t.resyncOpened = s.resyncOpened)
      ∧ (c.isReset = false → c ≠ .refreshTimerExpiry → t.refreshStart = s.refreshStart)
      ∧ (c.clearsEvents = false → t.lastCleared = s.lastCleared)

/-- Once set, the lock cell stays set through every step whose command is not a power-on or a release of the RESET pin with MAINT
high, and only COMMISSION_LOCK sets it: the twelfth law of the device (R163). -/
def Obligations.LockCellStaysSet : Prop :=
  ∀ (c : Instr) (s t : State), exec c s = .next t →
    (s.lock = true → c.clearsLock = false → t.lock = true) ∧ (s.lock = false → c ≠ .commissionLock → t.lock = false)

/-- A FEEDER_REPORT with the breaker CLOSED is the only way a section becomes LIVE (R126, R127). -/
def Obligations.OnlyClosedReportMakesLive : Prop :=
  ∀ (c : Instr) (s t : State) (k : SectionId), exec c s = .next t → s.isLive k = false → t.isLive k = true →
    c.closesBreaker k = true

/-- An event flag that is set stays set, and its count does not fall, unless the command is CLEAR_EVENTS, RESTART, a power-on or
a release of the RESET pin (R166, R167). -/
def Obligations.EventFlagsStick : Prop :=
  ∀ (c : Instr) (s t : State) (e : Fin 20), exec c s = .next t → c.clearsEvents = false →
    (s.events[e].flag = true → t.events[e].flag = true)
      ∧ (s.events[e].count ≤ 255 → s.events[e].count ≤ t.events[e].count)

/-- Where the trucks stand stays lawful through every step. The trucks of each queue, holder list and approach queue are
distinct, and each has a record that names that section and the state of that list, so that no truck stands in two queues, on
two holder lists or at two breaks; the holders of a section and the reservations into it take at most its six slots; each queue
keeps its order of ranks; and, with the trucks lawfully placed, no issued grant exceeds its target and each ramp entry is
that of one ordinary holder below its target in a LIVE section. With the trucks lawfully placed and A the effective capacity less
the margin, the targets and reservations of every LIVE section with no pass pending stay within A, and so, as no issued grant
exceeds its target, do the issued grants: the first law, which each pass inside a command and each ramp step keeps (R6, R17, R38,
R39, R56, R75, R79, R80, R86, R95). -/
def Obligations.PlacesSlotsAndRampStayLawful : Prop :=
  ∀ s t : State, step s = .next t →
    (s.placesLaw → t.placesLaw) ∧ (s.slotsLaw → t.slotsLaw) ∧ (s.rankLaw → t.rankLaw)
      ∧ (s.placesLaw → s.rampLaw → t.rampLaw)
      ∧ (s.placesLaw → s.capacityLaw → s.targetsFit → t.targetsFit)
end

