-- ==== Sys2Proof/Laws/State.lean ====
section
/-! SUPPORT. What each update of the state does to each field of it: one lemma per field per update, so that no later proof
unfolds a record update. -/

namespace Sys2Proof.Machine

variable (s : State)

/-! ### onSection -/

@[simp] theorem State.onSection_now (k : SectionId) (f : SectionRecord → SectionRecord) :
    (s.onSection k f).now = s.now := rfl
@[simp] theorem State.onSection_pins (k : SectionId) (f : SectionRecord → SectionRecord) :
    (s.onSection k f).pins = s.pins := rfl
@[simp] theorem State.onSection_lock (k : SectionId) (f : SectionRecord → SectionRecord) :
    (s.onSection k f).lock = s.lock := rfl
@[simp] theorem State.onSection_storeCell (k : SectionId) (f : SectionRecord → SectionRecord) :
    (s.onSection k f).storeCell = s.storeCell := rfl
@[simp] theorem State.onSection_storeJob (k : SectionId) (f : SectionRecord → SectionRecord) :
    (s.onSection k f).storeJob = s.storeJob := rfl
@[simp] theorem State.onSection_settings (k : SectionId) (f : SectionRecord → SectionRecord) :
    (s.onSection k f).settings = s.settings := rfl
@[simp] theorem State.onSection_windowTimer (k : SectionId) (f : SectionRecord → SectionRecord) :
    (s.onSection k f).windowTimer = s.windowTimer := rfl
@[simp] theorem State.onSection_lanes (k : SectionId) (f : SectionRecord → SectionRecord) :
    (s.onSection k f).lanes = s.lanes := rfl
@[simp] theorem State.onSection_degraded (k : SectionId) (f : SectionRecord → SectionRecord) :
    (s.onSection k f).degraded = s.degraded := rfl
@[simp] theorem State.onSection_roster (k : SectionId) (f : SectionRecord → SectionRecord) :
    (s.onSection k f).roster = s.roster := rfl
@[simp] theorem State.onSection_queues (k : SectionId) (f : SectionRecord → SectionRecord) :
    (s.onSection k f).queues = s.queues := rfl
@[simp] theorem State.onSection_resyncOpened (k : SectionId) (f : SectionRecord → SectionRecord) :
    (s.onSection k f).resyncOpened = s.resyncOpened := rfl
@[simp] theorem State.onSection_sections (k : SectionId) (f : SectionRecord → SectionRecord) :
    (s.onSection k f).sections = updateAt s.sections k f := rfl
@[simp] theorem State.onSection_feeders (k : SectionId) (f : SectionRecord → SectionRecord) :
    (s.onSection k f).feeders = s.feeders := rfl
@[simp] theorem State.onSection_holdTimer (k : SectionId) (f : SectionRecord → SectionRecord) :
    (s.onSection k f).holdTimer = s.holdTimer := rfl
@[simp] theorem State.onSection_breaks (k : SectionId) (f : SectionRecord → SectionRecord) :
    (s.onSection k f).breaks = s.breaks := rfl
@[simp] theorem State.onSection_refreshStart (k : SectionId) (f : SectionRecord → SectionRecord) :
    (s.onSection k f).refreshStart = s.refreshStart := rfl
@[simp] theorem State.onSection_events (k : SectionId) (f : SectionRecord → SectionRecord) :
    (s.onSection k f).events = s.events := rfl
@[simp] theorem State.onSection_lastCleared (k : SectionId) (f : SectionRecord → SectionRecord) :
    (s.onSection k f).lastCleared = s.lastCleared := rfl
@[simp] theorem State.onSection_choices (k : SectionId) (f : SectionRecord → SectionRecord) :
    (s.onSection k f).choices = s.choices := rfl
@[simp] theorem State.onSection_storesTaken (k : SectionId) (f : SectionRecord → SectionRecord) :
    (s.onSection k f).storesTaken = s.storesTaken := rfl
@[simp] theorem State.onSection_handed (k : SectionId) (f : SectionRecord → SectionRecord) :
    (s.onSection k f).handed = s.handed := rfl
@[simp] theorem State.onSection_pending (k : SectionId) (f : SectionRecord → SectionRecord) :
    (s.onSection k f).pending = s.pending := rfl

/-! ### onFeeder -/

@[simp] theorem State.onFeeder_now (k : SectionId) (f : FeederRecord → FeederRecord) :
    (s.onFeeder k f).now = s.now := rfl
@[simp] theorem State.onFeeder_pins (k : SectionId) (f : FeederRecord → FeederRecord) :
    (s.onFeeder k f).pins = s.pins := rfl
@[simp] theorem State.onFeeder_lock (k : SectionId) (f : FeederRecord → FeederRecord) :
    (s.onFeeder k f).lock = s.lock := rfl
@[simp] theorem State.onFeeder_storeCell (k : SectionId) (f : FeederRecord → FeederRecord) :
    (s.onFeeder k f).storeCell = s.storeCell := rfl
@[simp] theorem State.onFeeder_storeJob (k : SectionId) (f : FeederRecord → FeederRecord) :
    (s.onFeeder k f).storeJob = s.storeJob := rfl
@[simp] theorem State.onFeeder_settings (k : SectionId) (f : FeederRecord → FeederRecord) :
    (s.onFeeder k f).settings = s.settings := rfl
@[simp] theorem State.onFeeder_windowTimer (k : SectionId) (f : FeederRecord → FeederRecord) :
    (s.onFeeder k f).windowTimer = s.windowTimer := rfl
@[simp] theorem State.onFeeder_lanes (k : SectionId) (f : FeederRecord → FeederRecord) :
    (s.onFeeder k f).lanes = s.lanes := rfl
@[simp] theorem State.onFeeder_degraded (k : SectionId) (f : FeederRecord → FeederRecord) :
    (s.onFeeder k f).degraded = s.degraded := rfl
@[simp] theorem State.onFeeder_roster (k : SectionId) (f : FeederRecord → FeederRecord) :
    (s.onFeeder k f).roster = s.roster := rfl
@[simp] theorem State.onFeeder_queues (k : SectionId) (f : FeederRecord → FeederRecord) :
    (s.onFeeder k f).queues = s.queues := rfl
@[simp] theorem State.onFeeder_resyncOpened (k : SectionId) (f : FeederRecord → FeederRecord) :
    (s.onFeeder k f).resyncOpened = s.resyncOpened := rfl
@[simp] theorem State.onFeeder_sections (k : SectionId) (f : FeederRecord → FeederRecord) :
    (s.onFeeder k f).sections = s.sections := rfl
@[simp] theorem State.onFeeder_feeders (k : SectionId) (f : FeederRecord → FeederRecord) :
    (s.onFeeder k f).feeders = updateAt s.feeders k f := rfl
@[simp] theorem State.onFeeder_holdTimer (k : SectionId) (f : FeederRecord → FeederRecord) :
    (s.onFeeder k f).holdTimer = s.holdTimer := rfl
@[simp] theorem State.onFeeder_breaks (k : SectionId) (f : FeederRecord → FeederRecord) :
    (s.onFeeder k f).breaks = s.breaks := rfl
@[simp] theorem State.onFeeder_refreshStart (k : SectionId) (f : FeederRecord → FeederRecord) :
    (s.onFeeder k f).refreshStart = s.refreshStart := rfl
@[simp] theorem State.onFeeder_events (k : SectionId) (f : FeederRecord → FeederRecord) :
    (s.onFeeder k f).events = s.events := rfl
@[simp] theorem State.onFeeder_lastCleared (k : SectionId) (f : FeederRecord → FeederRecord) :
    (s.onFeeder k f).lastCleared = s.lastCleared := rfl
@[simp] theorem State.onFeeder_choices (k : SectionId) (f : FeederRecord → FeederRecord) :
    (s.onFeeder k f).choices = s.choices := rfl
@[simp] theorem State.onFeeder_storesTaken (k : SectionId) (f : FeederRecord → FeederRecord) :
    (s.onFeeder k f).storesTaken = s.storesTaken := rfl
@[simp] theorem State.onFeeder_handed (k : SectionId) (f : FeederRecord → FeederRecord) :
    (s.onFeeder k f).handed = s.handed := rfl
@[simp] theorem State.onFeeder_pending (k : SectionId) (f : FeederRecord → FeederRecord) :
    (s.onFeeder k f).pending = s.pending := rfl

/-! ### onBreak -/

@[simp] theorem State.onBreak_now (b : BreakId) (f : BreakRecord → BreakRecord) : (s.onBreak b f).now = s.now := rfl
@[simp] theorem State.onBreak_pins (b : BreakId) (f : BreakRecord → BreakRecord) :
    (s.onBreak b f).pins = s.pins := rfl
@[simp] theorem State.onBreak_lock (b : BreakId) (f : BreakRecord → BreakRecord) :
    (s.onBreak b f).lock = s.lock := rfl
@[simp] theorem State.onBreak_storeCell (b : BreakId) (f : BreakRecord → BreakRecord) :
    (s.onBreak b f).storeCell = s.storeCell := rfl
@[simp] theorem State.onBreak_storeJob (b : BreakId) (f : BreakRecord → BreakRecord) :
    (s.onBreak b f).storeJob = s.storeJob := rfl
@[simp] theorem State.onBreak_settings (b : BreakId) (f : BreakRecord → BreakRecord) :
    (s.onBreak b f).settings = s.settings := rfl
@[simp] theorem State.onBreak_windowTimer (b : BreakId) (f : BreakRecord → BreakRecord) :
    (s.onBreak b f).windowTimer = s.windowTimer := rfl
@[simp] theorem State.onBreak_lanes (b : BreakId) (f : BreakRecord → BreakRecord) :
    (s.onBreak b f).lanes = s.lanes := rfl
@[simp] theorem State.onBreak_degraded (b : BreakId) (f : BreakRecord → BreakRecord) :
    (s.onBreak b f).degraded = s.degraded := rfl
@[simp] theorem State.onBreak_roster (b : BreakId) (f : BreakRecord → BreakRecord) :
    (s.onBreak b f).roster = s.roster := rfl
@[simp] theorem State.onBreak_queues (b : BreakId) (f : BreakRecord → BreakRecord) :
    (s.onBreak b f).queues = s.queues := rfl
@[simp] theorem State.onBreak_resyncOpened (b : BreakId) (f : BreakRecord → BreakRecord) :
    (s.onBreak b f).resyncOpened = s.resyncOpened := rfl
@[simp] theorem State.onBreak_sections (b : BreakId) (f : BreakRecord → BreakRecord) :
    (s.onBreak b f).sections = s.sections := rfl
@[simp] theorem State.onBreak_feeders (b : BreakId) (f : BreakRecord → BreakRecord) :
    (s.onBreak b f).feeders = s.feeders := rfl
@[simp] theorem State.onBreak_holdTimer (b : BreakId) (f : BreakRecord → BreakRecord) :
    (s.onBreak b f).holdTimer = s.holdTimer := rfl
@[simp] theorem State.onBreak_breaks (b : BreakId) (f : BreakRecord → BreakRecord) :
    (s.onBreak b f).breaks = updateAt s.breaks b f := rfl
@[simp] theorem State.onBreak_refreshStart (b : BreakId) (f : BreakRecord → BreakRecord) :
    (s.onBreak b f).refreshStart = s.refreshStart := rfl
@[simp] theorem State.onBreak_events (b : BreakId) (f : BreakRecord → BreakRecord) :
    (s.onBreak b f).events = s.events := rfl
@[simp] theorem State.onBreak_lastCleared (b : BreakId) (f : BreakRecord → BreakRecord) :
    (s.onBreak b f).lastCleared = s.lastCleared := rfl
@[simp] theorem State.onBreak_choices (b : BreakId) (f : BreakRecord → BreakRecord) :
    (s.onBreak b f).choices = s.choices := rfl
@[simp] theorem State.onBreak_storesTaken (b : BreakId) (f : BreakRecord → BreakRecord) :
    (s.onBreak b f).storesTaken = s.storesTaken := rfl
@[simp] theorem State.onBreak_handed (b : BreakId) (f : BreakRecord → BreakRecord) :
    (s.onBreak b f).handed = s.handed := rfl
@[simp] theorem State.onBreak_pending (b : BreakId) (f : BreakRecord → BreakRecord) :
    (s.onBreak b f).pending = s.pending := rfl

/-! ### onLane -/

@[simp] theorem State.onLane_now (l : LaneId) (f : LanePort → LanePort) : (s.onLane l f).now = s.now := rfl
@[simp] theorem State.onLane_pins (l : LaneId) (f : LanePort → LanePort) : (s.onLane l f).pins = s.pins := rfl
@[simp] theorem State.onLane_lock (l : LaneId) (f : LanePort → LanePort) : (s.onLane l f).lock = s.lock := rfl
@[simp] theorem State.onLane_storeCell (l : LaneId) (f : LanePort → LanePort) :
    (s.onLane l f).storeCell = s.storeCell := rfl
@[simp] theorem State.onLane_storeJob (l : LaneId) (f : LanePort → LanePort) :
    (s.onLane l f).storeJob = s.storeJob := rfl
@[simp] theorem State.onLane_settings (l : LaneId) (f : LanePort → LanePort) :
    (s.onLane l f).settings = s.settings := rfl
@[simp] theorem State.onLane_windowTimer (l : LaneId) (f : LanePort → LanePort) :
    (s.onLane l f).windowTimer = s.windowTimer := rfl
@[simp] theorem State.onLane_lanes (l : LaneId) (f : LanePort → LanePort) :
    (s.onLane l f).lanes = updateAt s.lanes l f := rfl
@[simp] theorem State.onLane_degraded (l : LaneId) (f : LanePort → LanePort) :
    (s.onLane l f).degraded = s.degraded := rfl
@[simp] theorem State.onLane_roster (l : LaneId) (f : LanePort → LanePort) : (s.onLane l f).roster = s.roster := rfl
@[simp] theorem State.onLane_queues (l : LaneId) (f : LanePort → LanePort) : (s.onLane l f).queues = s.queues := rfl
@[simp] theorem State.onLane_resyncOpened (l : LaneId) (f : LanePort → LanePort) :
    (s.onLane l f).resyncOpened = s.resyncOpened := rfl
@[simp] theorem State.onLane_sections (l : LaneId) (f : LanePort → LanePort) :
    (s.onLane l f).sections = s.sections := rfl
@[simp] theorem State.onLane_feeders (l : LaneId) (f : LanePort → LanePort) :
    (s.onLane l f).feeders = s.feeders := rfl
@[simp] theorem State.onLane_holdTimer (l : LaneId) (f : LanePort → LanePort) :
    (s.onLane l f).holdTimer = s.holdTimer := rfl
@[simp] theorem State.onLane_breaks (l : LaneId) (f : LanePort → LanePort) : (s.onLane l f).breaks = s.breaks := rfl
@[simp] theorem State.onLane_refreshStart (l : LaneId) (f : LanePort → LanePort) :
    (s.onLane l f).refreshStart = s.refreshStart := rfl
@[simp] theorem State.onLane_events (l : LaneId) (f : LanePort → LanePort) : (s.onLane l f).events = s.events := rfl
@[simp] theorem State.onLane_lastCleared (l : LaneId) (f : LanePort → LanePort) :
    (s.onLane l f).lastCleared = s.lastCleared := rfl
@[simp] theorem State.onLane_choices (l : LaneId) (f : LanePort → LanePort) :
    (s.onLane l f).choices = s.choices := rfl
@[simp] theorem State.onLane_storesTaken (l : LaneId) (f : LanePort → LanePort) :
    (s.onLane l f).storesTaken = s.storesTaken := rfl
@[simp] theorem State.onLane_handed (l : LaneId) (f : LanePort → LanePort) :
    (s.onLane l f).handed = s.handed := rfl
@[simp] theorem State.onLane_pending (l : LaneId) (f : LanePort → LanePort) :
    (s.onLane l f).pending = s.pending := rfl

/-! ### onQueue -/

@[simp] theorem State.onQueue_now (k : SectionId) (f : List QueueEntry → List QueueEntry) :
    (s.onQueue k f).now = s.now := rfl
@[simp] theorem State.onQueue_pins (k : SectionId) (f : List QueueEntry → List QueueEntry) :
    (s.onQueue k f).pins = s.pins := rfl
@[simp] theorem State.onQueue_lock (k : SectionId) (f : List QueueEntry → List QueueEntry) :
    (s.onQueue k f).lock = s.lock := rfl
@[simp] theorem State.onQueue_storeCell (k : SectionId) (f : List QueueEntry → List QueueEntry) :
    (s.onQueue k f).storeCell = s.storeCell := rfl
@[simp] theorem State.onQueue_storeJob (k : SectionId) (f : List QueueEntry → List QueueEntry) :
    (s.onQueue k f).storeJob = s.storeJob := rfl
@[simp] theorem State.onQueue_settings (k : SectionId) (f : List QueueEntry → List QueueEntry) :
    (s.onQueue k f).settings = s.settings := rfl
@[simp] theorem State.onQueue_windowTimer (k : SectionId) (f : List QueueEntry → List QueueEntry) :
    (s.onQueue k f).windowTimer = s.windowTimer := rfl
@[simp] theorem State.onQueue_lanes (k : SectionId) (f : List QueueEntry → List QueueEntry) :
    (s.onQueue k f).lanes = s.lanes := rfl
@[simp] theorem State.onQueue_degraded (k : SectionId) (f : List QueueEntry → List QueueEntry) :
    (s.onQueue k f).degraded = s.degraded := rfl
@[simp] theorem State.onQueue_roster (k : SectionId) (f : List QueueEntry → List QueueEntry) :
    (s.onQueue k f).roster = s.roster := rfl
@[simp] theorem State.onQueue_queues (k : SectionId) (f : List QueueEntry → List QueueEntry) :
    (s.onQueue k f).queues = updateAt s.queues k f := rfl
@[simp] theorem State.onQueue_resyncOpened (k : SectionId) (f : List QueueEntry → List QueueEntry) :
    (s.onQueue k f).resyncOpened = s.resyncOpened := rfl
@[simp] theorem State.onQueue_sections (k : SectionId) (f : List QueueEntry → List QueueEntry) :
    (s.onQueue k f).sections = s.sections := rfl
@[simp] theorem State.onQueue_feeders (k : SectionId) (f : List QueueEntry → List QueueEntry) :
    (s.onQueue k f).feeders = s.feeders := rfl
@[simp] theorem State.onQueue_holdTimer (k : SectionId) (f : List QueueEntry → List QueueEntry) :
    (s.onQueue k f).holdTimer = s.holdTimer := rfl
@[simp] theorem State.onQueue_breaks (k : SectionId) (f : List QueueEntry → List QueueEntry) :
    (s.onQueue k f).breaks = s.breaks := rfl
@[simp] theorem State.onQueue_refreshStart (k : SectionId) (f : List QueueEntry → List QueueEntry) :
    (s.onQueue k f).refreshStart = s.refreshStart := rfl
@[simp] theorem State.onQueue_events (k : SectionId) (f : List QueueEntry → List QueueEntry) :
    (s.onQueue k f).events = s.events := rfl
@[simp] theorem State.onQueue_lastCleared (k : SectionId) (f : List QueueEntry → List QueueEntry) :
    (s.onQueue k f).lastCleared = s.lastCleared := rfl
@[simp] theorem State.onQueue_choices (k : SectionId) (f : List QueueEntry → List QueueEntry) :
    (s.onQueue k f).choices = s.choices := rfl
@[simp] theorem State.onQueue_storesTaken (k : SectionId) (f : List QueueEntry → List QueueEntry) :
    (s.onQueue k f).storesTaken = s.storesTaken := rfl
@[simp] theorem State.onQueue_handed (k : SectionId) (f : List QueueEntry → List QueueEntry) :
    (s.onQueue k f).handed = s.handed := rfl
@[simp] theorem State.onQueue_pending (k : SectionId) (f : List QueueEntry → List QueueEntry) :
    (s.onQueue k f).pending = s.pending := rfl

/-! ### onTruck -/

@[simp] theorem State.onTruck_now (t : TruckId) (f : Truck → Truck) : (s.onTruck t f).now = s.now := rfl
@[simp] theorem State.onTruck_pins (t : TruckId) (f : Truck → Truck) : (s.onTruck t f).pins = s.pins := rfl
@[simp] theorem State.onTruck_lock (t : TruckId) (f : Truck → Truck) : (s.onTruck t f).lock = s.lock := rfl
@[simp] theorem State.onTruck_storeCell (t : TruckId) (f : Truck → Truck) :
    (s.onTruck t f).storeCell = s.storeCell := rfl
@[simp] theorem State.onTruck_storeJob (t : TruckId) (f : Truck → Truck) :
    (s.onTruck t f).storeJob = s.storeJob := rfl
@[simp] theorem State.onTruck_settings (t : TruckId) (f : Truck → Truck) :
    (s.onTruck t f).settings = s.settings := rfl
@[simp] theorem State.onTruck_windowTimer (t : TruckId) (f : Truck → Truck) :
    (s.onTruck t f).windowTimer = s.windowTimer := rfl
@[simp] theorem State.onTruck_lanes (t : TruckId) (f : Truck → Truck) : (s.onTruck t f).lanes = s.lanes := rfl
@[simp] theorem State.onTruck_degraded (t : TruckId) (f : Truck → Truck) :
    (s.onTruck t f).degraded = s.degraded := rfl
@[simp] theorem State.onTruck_roster (t : TruckId) (f : Truck → Truck) :
    (s.onTruck t f).roster = s.roster.map fun r => if r.id = t then f r else r := rfl
@[simp] theorem State.onTruck_queues (t : TruckId) (f : Truck → Truck) : (s.onTruck t f).queues = s.queues := rfl
@[simp] theorem State.onTruck_resyncOpened (t : TruckId) (f : Truck → Truck) :
    (s.onTruck t f).resyncOpened = s.resyncOpened := rfl
@[simp] theorem State.onTruck_sections (t : TruckId) (f : Truck → Truck) :
    (s.onTruck t f).sections = s.sections := rfl
@[simp] theorem State.onTruck_feeders (t : TruckId) (f : Truck → Truck) : (s.onTruck t f).feeders = s.feeders := rfl
@[simp] theorem State.onTruck_holdTimer (t : TruckId) (f : Truck → Truck) :
    (s.onTruck t f).holdTimer = s.holdTimer := rfl
@[simp] theorem State.onTruck_breaks (t : TruckId) (f : Truck → Truck) : (s.onTruck t f).breaks = s.breaks := rfl
@[simp] theorem State.onTruck_refreshStart (t : TruckId) (f : Truck → Truck) :
    (s.onTruck t f).refreshStart = s.refreshStart := rfl
@[simp] theorem State.onTruck_events (t : TruckId) (f : Truck → Truck) : (s.onTruck t f).events = s.events := rfl
@[simp] theorem State.onTruck_lastCleared (t : TruckId) (f : Truck → Truck) :
    (s.onTruck t f).lastCleared = s.lastCleared := rfl
@[simp] theorem State.onTruck_choices (t : TruckId) (f : Truck → Truck) : (s.onTruck t f).choices = s.choices := rfl
@[simp] theorem State.onTruck_storesTaken (t : TruckId) (f : Truck → Truck) :
    (s.onTruck t f).storesTaken = s.storesTaken := rfl
@[simp] theorem State.onTruck_handed (t : TruckId) (f : Truck → Truck) :
    (s.onTruck t f).handed = s.handed := rfl
@[simp] theorem State.onTruck_pending (t : TruckId) (f : Truck → Truck) : (s.onTruck t f).pending = s.pending := rfl

/-! ### raise -/

@[simp] theorem State.raise_now (e : EventKind) (x : Subject) : (s.raise e x).now = s.now := rfl
@[simp] theorem State.raise_pins (e : EventKind) (x : Subject) : (s.raise e x).pins = s.pins := rfl
@[simp] theorem State.raise_lock (e : EventKind) (x : Subject) : (s.raise e x).lock = s.lock := rfl
@[simp] theorem State.raise_storeCell (e : EventKind) (x : Subject) : (s.raise e x).storeCell = s.storeCell := rfl
@[simp] theorem State.raise_storeJob (e : EventKind) (x : Subject) : (s.raise e x).storeJob = s.storeJob := rfl
@[simp] theorem State.raise_settings (e : EventKind) (x : Subject) : (s.raise e x).settings = s.settings := rfl
@[simp] theorem State.raise_windowTimer (e : EventKind) (x : Subject) :
    (s.raise e x).windowTimer = s.windowTimer := rfl
@[simp] theorem State.raise_lanes (e : EventKind) (x : Subject) : (s.raise e x).lanes = s.lanes := rfl
@[simp] theorem State.raise_degraded (e : EventKind) (x : Subject) : (s.raise e x).degraded = s.degraded := rfl
@[simp] theorem State.raise_roster (e : EventKind) (x : Subject) : (s.raise e x).roster = s.roster := rfl
@[simp] theorem State.raise_queues (e : EventKind) (x : Subject) : (s.raise e x).queues = s.queues := rfl
@[simp] theorem State.raise_resyncOpened (e : EventKind) (x : Subject) :
    (s.raise e x).resyncOpened = s.resyncOpened := rfl
@[simp] theorem State.raise_sections (e : EventKind) (x : Subject) : (s.raise e x).sections = s.sections := rfl
@[simp] theorem State.raise_feeders (e : EventKind) (x : Subject) : (s.raise e x).feeders = s.feeders := rfl
@[simp] theorem State.raise_holdTimer (e : EventKind) (x : Subject) : (s.raise e x).holdTimer = s.holdTimer := rfl
@[simp] theorem State.raise_breaks (e : EventKind) (x : Subject) : (s.raise e x).breaks = s.breaks := rfl
@[simp] theorem State.raise_refreshStart (e : EventKind) (x : Subject) :
    (s.raise e x).refreshStart = s.refreshStart := rfl
@[simp] theorem State.raise_events (e : EventKind) (x : Subject) :
    (s.raise e x).events = updateAt s.events e.code fun r => r.occur x := rfl
@[simp] theorem State.raise_lastCleared (e : EventKind) (x : Subject) :
    (s.raise e x).lastCleared = s.lastCleared := rfl
@[simp] theorem State.raise_choices (e : EventKind) (x : Subject) : (s.raise e x).choices = s.choices := rfl
@[simp] theorem State.raise_storesTaken (e : EventKind) (x : Subject) :
    (s.raise e x).storesTaken = s.storesTaken := rfl
@[simp] theorem State.raise_handed (e : EventKind) (x : Subject) :
    (s.raise e x).handed = s.handed := rfl
@[simp] theorem State.raise_pending (e : EventKind) (x : Subject) : (s.raise e x).pending = s.pending := rfl

/-! ### onSettings -/

@[simp] theorem State.onSettings_now (f : Settings → Settings) : (s.onSettings f).now = s.now := rfl
@[simp] theorem State.onSettings_pins (f : Settings → Settings) : (s.onSettings f).pins = s.pins := rfl
@[simp] theorem State.onSettings_lock (f : Settings → Settings) : (s.onSettings f).lock = s.lock := rfl
@[simp] theorem State.onSettings_storeCell (f : Settings → Settings) : (s.onSettings f).storeCell = s.storeCell := rfl
@[simp] theorem State.onSettings_storeJob (f : Settings → Settings) : (s.onSettings f).storeJob = s.storeJob := rfl
@[simp] theorem State.onSettings_settings (f : Settings → Settings) : (s.onSettings f).settings = f s.settings := rfl
@[simp] theorem State.onSettings_windowTimer (f : Settings → Settings) :
    (s.onSettings f).windowTimer = s.windowTimer := rfl
@[simp] theorem State.onSettings_lanes (f : Settings → Settings) : (s.onSettings f).lanes = s.lanes := rfl
@[simp] theorem State.onSettings_degraded (f : Settings → Settings) : (s.onSettings f).degraded = s.degraded := rfl
@[simp] theorem State.onSettings_roster (f : Settings → Settings) : (s.onSettings f).roster = s.roster := rfl
@[simp] theorem State.onSettings_queues (f : Settings → Settings) : (s.onSettings f).queues = s.queues := rfl
@[simp] theorem State.onSettings_resyncOpened (f : Settings → Settings) :
    (s.onSettings f).resyncOpened = s.resyncOpened := rfl
@[simp] theorem State.onSettings_sections (f : Settings → Settings) : (s.onSettings f).sections = s.sections := rfl
@[simp] theorem State.onSettings_feeders (f : Settings → Settings) : (s.onSettings f).feeders = s.feeders := rfl
@[simp] theorem State.onSettings_holdTimer (f : Settings → Settings) : (s.onSettings f).holdTimer = s.holdTimer := rfl
@[simp] theorem State.onSettings_breaks (f : Settings → Settings) : (s.onSettings f).breaks = s.breaks := rfl
@[simp] theorem State.onSettings_refreshStart (f : Settings → Settings) :
    (s.onSettings f).refreshStart = s.refreshStart := rfl
@[simp] theorem State.onSettings_events (f : Settings → Settings) : (s.onSettings f).events = s.events := rfl
@[simp] theorem State.onSettings_lastCleared (f : Settings → Settings) :
    (s.onSettings f).lastCleared = s.lastCleared := rfl
@[simp] theorem State.onSettings_choices (f : Settings → Settings) : (s.onSettings f).choices = s.choices := rfl
@[simp] theorem State.onSettings_storesTaken (f : Settings → Settings) :
    (s.onSettings f).storesTaken = s.storesTaken := rfl
@[simp] theorem State.onSettings_handed (f : Settings → Settings) :
    (s.onSettings f).handed = s.handed := rfl
@[simp] theorem State.onSettings_pending (f : Settings → Settings) : (s.onSettings f).pending = s.pending := rfl

end Sys2Proof.Machine
end

