-- ==== Sys2Proof/Laws/Frame.lean ====
section
/-! SUPPORT. The frame of the shared operations: which fields of the state they can touch at all. `State.setup` is the state
with its working fields erased, so that `(op s).setup = s.setup` says once that an operation leaves every other field alone:
the timebase, the pins, the lock cell, the settings and their store, the window timer, the resync window, the refresh
timer, the last-cleared copies, the copies handed over and the queue of commands. -/

namespace Sys2Proof.Machine

/-! ## Folds -/

/-- A fold whose every step keeps a projection of the state keeps it. -/
theorem foldl_keeps {α σ β : Type} (p : σ → β) (f : σ → α → σ) (h : ∀ s a, p (f s a) = p s) (l : List α) (s : σ) :
    p (l.foldl f s) = p s := by
  induction l generalizing s with
  | nil => rfl
  | cons a l ih => simp [ih, h]

/-! ## The state with its working fields erased -/

/-- The state with every field erased that a command other than a supervisory one or a reset may change. -/
def State.setup (s : State) : State :=
  { s with
    lanes := Vector.replicate 4 (LanePort.fresh 0 0)
    degraded := false
    roster := []
    queues := Vector.replicate 6 []
    sections := Vector.replicate 6 (SectionRecord.empty .outOfService)
    feeders := Vector.replicate 6 FeederRecord.empty
    holdTimer := none
    breaks := Vector.replicate 6 BreakRecord.empty
    events := Vector.replicate 20 EventRecord.clear }

section

variable {s t : State}

theorem now_of_setup (h : t.setup = s.setup) : t.now = s.now := by
  have e : t.setup.now = s.setup.now := by rw [h]
  exact e
theorem pins_of_setup (h : t.setup = s.setup) : t.pins = s.pins := by
  have e : t.setup.pins = s.setup.pins := by rw [h]
  exact e
theorem lock_of_setup (h : t.setup = s.setup) : t.lock = s.lock := by
  have e : t.setup.lock = s.setup.lock := by rw [h]
  exact e
theorem storeCell_of_setup (h : t.setup = s.setup) : t.storeCell = s.storeCell := by
  have e : t.setup.storeCell = s.setup.storeCell := by rw [h]
  exact e
theorem storeJob_of_setup (h : t.setup = s.setup) : t.storeJob = s.storeJob := by
  have e : t.setup.storeJob = s.setup.storeJob := by rw [h]
  exact e
theorem settings_of_setup (h : t.setup = s.setup) : t.settings = s.settings := by
  have e : t.setup.settings = s.setup.settings := by rw [h]
  exact e
theorem windowTimer_of_setup (h : t.setup = s.setup) : t.windowTimer = s.windowTimer := by
  have e : t.setup.windowTimer = s.setup.windowTimer := by rw [h]
  exact e
theorem resyncOpened_of_setup (h : t.setup = s.setup) : t.resyncOpened = s.resyncOpened := by
  have e : t.setup.resyncOpened = s.setup.resyncOpened := by rw [h]
  exact e
theorem handed_of_setup (h : t.setup = s.setup) : t.handed = s.handed := by
  have e : t.setup.handed = s.setup.handed := by rw [h]
  exact e
theorem refreshStart_of_setup (h : t.setup = s.setup) : t.refreshStart = s.refreshStart := by
  have e : t.setup.refreshStart = s.setup.refreshStart := by rw [h]
  exact e
theorem lastCleared_of_setup (h : t.setup = s.setup) : t.lastCleared = s.lastCleared := by
  have e : t.setup.lastCleared = s.setup.lastCleared := by rw [h]
  exact e
theorem choices_of_setup (h : t.setup = s.setup) : t.choices = s.choices := by
  have e : t.setup.choices = s.setup.choices := by rw [h]
  exact e
theorem storesTaken_of_setup (h : t.setup = s.setup) : t.storesTaken = s.storesTaken := by
  have e : t.setup.storesTaken = s.setup.storesTaken := by rw [h]
  exact e
theorem pending_of_setup (h : t.setup = s.setup) : t.pending = s.pending := by
  have e : t.setup.pending = s.setup.pending := by rw [h]
  exact e

end

/-! ## Records, events and telegrams -/

variable (s before : State)

@[simp] theorem setup_onSection (k : SectionId) (f : SectionRecord → SectionRecord) : (s.onSection k f).setup = s.setup := rfl
@[simp] theorem setup_onFeeder (k : SectionId) (f : FeederRecord → FeederRecord) : (s.onFeeder k f).setup = s.setup := rfl
@[simp] theorem setup_onBreak (b : BreakId) (f : BreakRecord → BreakRecord) : (s.onBreak b f).setup = s.setup := rfl
@[simp] theorem setup_onLane (l : LaneId) (f : LanePort → LanePort) : (s.onLane l f).setup = s.setup := rfl
@[simp] theorem setup_onQueue (k : SectionId) (f : List QueueEntry → List QueueEntry) :
    (s.onQueue k f).setup = s.setup := rfl
@[simp] theorem setup_onTruck (t : TruckId) (f : Truck → Truck) : (s.onTruck t f).setup = s.setup := rfl
@[simp] theorem setup_raise (e : EventKind) (x : Subject) : (s.raise e x).setup = s.setup := rfl

@[simp] theorem setup_sendOn (l : LaneId) (t : OutTelegram) : (s.sendOn l t).setup = s.setup := rfl

@[simp] theorem setup_sendRole (r : Role) (t : OutTelegram) : (s.sendRole r t).setup = s.setup := by
  unfold State.sendRole; split <;> simp

@[simp] theorem setup_sendRadio (t : OutTelegram) (r : Role) : (s.sendRadio t r).setup = s.setup := by
  unfold State.sendRadio; split
  · split <;> simp
  · rfl

@[simp] theorem setup_sendTruck (t : OutTelegram) : (s.sendTruck t).setup = s.setup :=
  foldl_keeps State.setup _ (fun s r => setup_sendRadio s t r) _ s

@[simp] theorem setup_sendLower (t : TruckId) (r : LowerReason) (b : Option BreakId) (p : Bool) :
    (s.sendLower t r b p).setup = s.setup := by simp [State.sendLower]

@[simp] theorem setup_reply (c : ReplyCode) (a i : Octet) (v : Option ReplyValue) : (s.reply c a i v).setup = s.setup := by
  simp [State.reply]

@[simp] theorem setup_sendGrant (k : SectionId) (h : Holder) (p : Bool) :
    (State.sendGrant before s k h p).setup = s.setup := by simp [State.sendGrant]

@[simp] theorem setup_sendQueued (k : SectionId) (t : TruckId) (p : Bool) : (s.sendQueued k t p).setup = s.setup := by
  simp [State.sendQueued]

@[simp] theorem setup_reportPositions (k : SectionId) : (s.reportPositions k).setup = s.setup := by
  unfold State.reportPositions
  exact foldl_keeps State.setup _ (fun s p => setup_sendTruck s _) _ s

@[simp] theorem setup_reportAllPositions : s.reportAllPositions.setup = s.setup :=
  foldl_keeps State.setup _ (fun s k => setup_reportPositions s k) _ s

@[simp] theorem setup_sendEvents (ks : List EventKind) (r : Role) (m : MemberSet) (d : Octet) :
    (s.sendEvents ks r m d).setup = s.setup := by
  unfold State.sendEvents; split <;> simp

@[simp] theorem setup_flushEvents : (State.flushEvents before s).setup = s.setup := by simp [State.flushEvents]

@[simp] theorem setup_finish : (State.finish before s).setup = s.setup := by simp [State.finish]

/-! ## Trucks, queues and places -/

@[simp] theorem setup_endBoost (t : TruckId) : (s.endBoost t).setup = s.setup := rfl
@[simp] theorem setup_toIdle (t : TruckId) : (s.toIdle t).setup = s.setup := rfl

@[simp] theorem setup_turnAway (t : TruckId) : (s.turnAway t).setup = s.setup := by simp [State.turnAway]

@[simp] theorem setup_enterQueue (k : SectionId) (t : TruckId) (r : Rank) : (s.enterQueue k t r).setup = s.setup := by
  unfold State.enterQueue; split
  · simp
  · split <;> simp

@[simp] theorem setup_stopIdleRestore (k : SectionId) : (s.stopIdleRestore k).setup = s.setup := by
  unfold State.stopIdleRestore; split <;> simp

@[simp] theorem setup_leaveHolders (k : SectionId) (t : TruckId) (d : Bool) : (s.leaveHolders k t d).setup = s.setup := by
  simp [State.leaveHolders]

@[simp] theorem setup_dropApproach (b : BreakId) (t : TruckId) : (s.dropApproach b t).setup = s.setup := rfl

@[simp] theorem setup_vacate (t : TruckId) (d : Bool) : (s.vacate t d).setup = s.setup := by
  unfold State.vacate; split
  · rfl
  · split <;> simp

@[simp] theorem setup_placeReply (t : TruckId) : (State.placeReply before s t).setup = s.setup := by
  unfold State.placeReply; split
  · rfl
  · split <;> (try split) <;> simp

@[simp] theorem setup_setEffective (k : SectionId) (a : Amps) : (s.setEffective k a).setup = s.setup := rfl

@[simp] theorem setup_callPass (k : SectionId) : (s.callPass k).setup = s.setup := by
  unfold State.callPass; split <;> simp

/-! ## The pass -/

@[simp] theorem setup_takeGap (k : SectionId) (t : TruckId) : (s.takeGap k t).setup = s.setup := rfl

@[simp] theorem setup_refuse (b : BreakId) (e : ApproachEntry) (r : LowerReason) : (s.refuse b e r).setup = s.setup := by
  unfold State.refuse; simp only; split <;> simp

@[simp] theorem setup_shedInto (k : SectionId) (t : TruckId) : (s.shedInto k t).setup = s.setup := by
  unfold State.shedInto; simp only; split
  · split <;> simp
  · simp

@[simp] theorem setup_shed (k : SectionId) (t : TruckId) : (s.shed k t).setup = s.setup := by simp [State.shed]

theorem setup_removeLoad {s t : State} {k : SectionId} (h : s.removeLoad k = some t) : t.setup = s.setup := by
  unfold State.removeLoad at h
  split at h
  · cases h; simp
  · split at h
    · cases h; simp
    · simp only [Option.map_eq_some_iff] at h
      obtain ⟨x, -, rfl⟩ := h; simp

theorem setup_deficitLoop (k : SectionId) (n : Nat) (s : State) : (deficitLoop k n s).setup = s.setup := by
  induction n generalizing s with
  | zero => rfl
  | succ n ih =>
    unfold deficitLoop
    split
    · rfl
    · split
      · rename_i h; rw [ih, setup_removeLoad h]
      · rfl

@[simp] theorem setup_deficitCheck (k : SectionId) : (s.deficitCheck k).setup = s.setup := setup_deficitLoop k _ s

@[simp] theorem setup_takeHead (k : SectionId) (t : TruckId) : (s.takeHead k t).setup = s.setup := rfl

theorem setup_serviceLoop (k : SectionId) (n : Nat) (s : State) : (serviceLoop k n s).setup = s.setup := by
  induction n generalizing s with
  | zero => rfl
  | succ n ih =>
    unfold serviceLoop
    split
    · rfl
    · split
      · rw [ih]; simp
      · rfl

@[simp] theorem setup_admissionService (k : SectionId) : (s.admissionService k).setup = s.setup := by
  unfold State.admissionService; split
  · rfl
  · exact setup_serviceLoop k _ s

@[simp] theorem setup_handOff (k : SectionId) : (s.handOff k).setup = s.setup := rfl

@[simp] theorem setup_sendGrants (k : SectionId) (a : Option TruckId) :
    (State.sendGrants before s k a).setup = s.setup :=
  foldl_keeps State.setup _ (fun s h => setup_sendGrant s before k h false) _ s

@[simp] theorem setup_clearEntries (k : SectionId) : (s.clearEntries k).setup = s.setup := rfl

@[simp] theorem setup_sendLoad (k : SectionId) : (s.sendLoad k).setup = s.setup := by simp [State.sendLoad]

@[simp] theorem setup_pass (k : SectionId) (a : Option TruckId) : (State.pass before s k a).setup = s.setup := by
  unfold State.pass; split <;> simp

@[simp] theorem setup_passes (ks : List SectionId) : (State.passes before s ks).setup = s.setup :=
  foldl_keeps State.setup _ (fun s k => setup_pass s before k none) _ s

@[simp] theorem setup_release (t : TruckId) (r : Option LowerReason) (d : Bool) :
    (State.release before s t r d).setup = s.setup := by
  unfold State.release; simp only [setup_passes]; split <;> simp

@[simp] theorem setup_rampStep (k : SectionId) (e : RampEntry) : (s.rampStep k e).setup = s.setup := by
  unfold State.rampStep; simp only; split <;> simp

/-! ## Crossing -/

@[simp] theorem setup_approach (b : BreakId) (t : TruckId) : (State.approach before s b t).setup = s.setup := by
  unfold State.approach; split
  · rfl
  · simp only; split <;> (try split) <;> (try split) <;> simp

@[simp] theorem setup_clear (b : BreakId) (e : ApproachEntry) : (s.clear b e).setup = s.setup := by
  unfold State.clear; simp only; split <;> simp

@[simp] theorem setup_recordCompletion (b : BreakId) (t : TruckId) (e : EvidenceKind) :
    (s.recordCompletion b t e).setup = s.setup := rfl

@[simp] theorem setup_joinHolders (k : SectionId) (h : Holder) : (s.joinHolders k h).setup = s.setup := rfl

@[simp] theorem setup_completeExit (b : BreakId) (t : TruckId) : (State.completeExit before s b t).setup = s.setup := by
  simp [State.completeExit]

@[simp] theorem setup_completeHandover (b : BreakId) (t : TruckId) (a : Amps) :
    (State.completeHandover before s b t a).setup = s.setup := by
  unfold State.completeHandover; split <;> simp

@[simp] theorem setup_complete (b : BreakId) (e : ApproachEntry) (k : EvidenceKind) :
    (State.complete before s b e k).setup = s.setup := by
  unfold State.complete; simp only; split <;> split <;> simp

@[simp] theorem setup_lateRelease (b : BreakId) (t : TruckId) (r : LowerReason) (x : Option BreakId) :
    (State.lateRelease before s b t r x).setup = s.setup := by simp [State.lateRelease]

@[simp] theorem setup_lateCrossing (b : BreakId) (t : TruckId) (k : EvidenceKind) :
    (State.lateCrossing before s b t k).setup = s.setup := by
  unfold State.lateCrossing; simp only; split
  · simp
  · split
    · simp
    · split
      · split <;> simp
      · simp

@[simp] theorem setup_sensorPassage (b : BreakId) : (State.sensorPassage before s b).setup = s.setup := by
  unfold State.sensorPassage; split
  · simp
  · split
    · simp
    · split <;> simp

@[simp] theorem setup_passedAt (b : BreakId) (t : TruckId) : (State.passedAt before s b t).setup = s.setup := by
  unfold State.passedAt; split
  · simp
  · split
    · rfl
    · split <;> simp

@[simp] theorem setup_passedTelegram (k : Nat) (t : TruckId) : (State.passedTelegram before s k t).setup = s.setup := by
  unfold State.passedTelegram; split
  · simp
  · split <;> simp

@[simp] theorem setup_selectedEdge (b : BreakId) : (State.selectedEdge before s b).setup = s.setup := by
  unfold State.selectedEdge; split
  · simp only; split <;> simp
  · rfl

@[simp] theorem setup_readGap (b : BreakId) (high : Bool) : (State.readGap before s b high).setup = s.setup := by
  unfold State.readGap; split
  · simp only; split
    · simp
    · split
      · simp
      · split <;> simp
  · rfl

@[simp] theorem setup_cancelCrossing (b : BreakId) (e : ApproachEntry) :
    (State.cancelCrossing before s b e).setup = s.setup := by
  unfold State.cancelCrossing; simp only; split <;> (try split) <;> simp

/-! ## The roster -/

@[simp] theorem setup_passAtTruck (t : TruckId) (a : Option TruckId) :
    (State.passAtTruck before s t a).setup = s.setup := by
  unfold State.passAtTruck; split
  · split <;> simp
  · rfl

@[simp] theorem setup_recordDemand (t : TruckId) (a : Amps) (f : Bool) : (s.recordDemand t a f).setup = s.setup := by
  unfold State.recordDemand; split <;> simp

@[simp] theorem setup_applyDemand (t : TruckId) (a : Amps) (f : Bool) (asked : Option TruckId) :
    (State.applyDemand before s t a f asked).setup = s.setup := by simp [State.applyDemand]

@[simp] theorem setup_takeDemand (r : Truck) (a : Amps) (f : Bool) (asked : Option TruckId) :
    (State.takeDemand before s r a f asked).setup = s.setup := by
  unfold State.takeDemand; split <;> simp

@[simp] theorem setup_applyWaiting (r : Truck) : (State.applyWaiting before s r).setup = s.setup := by
  unfold State.applyWaiting; split
  · split <;> simp
  · rfl

@[simp] theorem setup_freshAdmit (t : TruckId) (k : Nat) (a : Amps) (f : Bool) :
    (State.freshAdmit before s t k a f).setup = s.setup := by
  unfold State.freshAdmit; split
  · simp
  · split
    · simp only; split <;> simp
    · simp

@[simp] theorem setup_tellPlace (t : TruckId) (w : TruckState) (p : Bool) :
    (State.tellPlace before s t w p).setup = s.setup := by
  unfold State.tellPlace; split
  · split
    · split <;> simp
    · split
      · split <;> simp
      · rfl
    · rfl
  · rfl

@[simp] theorem setup_repeatAdmit (r : Truck) (a : Amps) : (State.repeatAdmit before s r a).setup = s.setup := by
  simp [State.repeatAdmit]

@[simp] theorem setup_admitTelegram (r : Truck) (k : Nat) (a : Amps) (f : Bool) :
    (State.admitTelegram before s r k a f).setup = s.setup := by
  unfold State.admitTelegram; split
  · simp
  · split <;> simp
  · split <;> simp
  · simp

@[simp] theorem setup_demandTelegram (r : Truck) (a : Amps) (f : Bool) :
    (State.demandTelegram before s r a f).setup = s.setup := by
  unfold State.demandTelegram; split <;> simp

@[simp] theorem setup_approachTelegram (r : Truck) (k : Nat) : (State.approachTelegram before s r k).setup = s.setup := by
  unfold State.approachTelegram; split
  · split <;> simp
  · simp

@[simp] theorem setup_loweredTelegram (r : Truck) : (State.loweredTelegram before s r).setup = s.setup := by
  unfold State.loweredTelegram; split <;> simp

@[simp] theorem setup_byType (r : Truck) (m : Inbound) : (State.byType before s r m).setup = s.setup := by
  cases m
  case truckAdmit => exact setup_admitTelegram s before r _ _ _
  case truckDemand => exact setup_demandTelegram s before r _ _
  case truckApproach => exact setup_approachTelegram s before r _
  case truckPassed => exact setup_passedTelegram s before _ _
  case truckLowered => exact setup_loweredTelegram s before r
  all_goals exact congrArg State.setup rfl

@[simp] theorem setup_dealt (t : TruckId) (m : Inbound) : (State.dealt before s t m).setup = s.setup := by
  unfold State.dealt; split <;> simp

@[simp] theorem setup_heardAgain (t : TruckId) (m : Inbound) : (State.heardAgain before s t m).setup = s.setup := by
  unfold State.heardAgain; simp only
  split <;> split <;> (try split) <;> simp

@[simp] theorem setup_rosterTelegram (t : TruckId) (m : Inbound) : (s.rosterTelegram t m).setup = s.setup := by
  unfold State.rosterTelegram; split
  · simp only; split <;> simp
  · simp only; split <;> simp

@[simp] theorem setup_abandon (t : TruckId) : (State.abandon before s t).setup = s.setup := by simp [State.abandon]

@[simp] theorem setup_fallSilent (r : Truck) : (State.fallSilent before s r).setup = s.setup := by
  unfold State.fallSilent; split
  · simp
  · simp only; split <;> simp

/-! ## Lanes and pairing -/

@[simp] theorem setup_countUnpaired (l : LaneId) : (s.countUnpaired l).setup = s.setup := rfl
@[simp] theorem setup_setSlot (t : TruckId) (c : Option RadioCopy) : (s.setSlot t c).setup = s.setup := rfl
@[simp] theorem setup_emptySlots : s.emptySlots.setup = s.setup := rfl

@[simp] theorem setup_pairTelegram (l : LaneId) (t : TruckId) (m : Inbound) : (s.pairTelegram l t m).setup = s.setup := by
  unfold State.pairTelegram State.pairEither State.pairBoth
  repeat' split
  all_goals simp

@[simp] theorem setup_setDegraded (d : Bool) : (s.setDegraded d).setup = s.setup := rfl

@[simp] theorem setup_forgetCopies : s.forgetCopies.setup = s.setup := by
  unfold State.forgetCopies; split
  · rw [setup_emptySlots, foldl_keeps State.setup _ (fun s c => setup_countUnpaired s _)]
  · rfl

@[simp] theorem setup_resyncRepeat (l : LaneId) : (s.resyncRepeat l).setup = s.setup := by
  unfold State.resyncRepeat; split
  · split <;> simp
  · rfl

@[simp] theorem setup_derate (k : SectionId) : (s.derate k).setup = s.setup := by
  unfold State.derate; split
  · simp only; split <;> simp
  · rfl

@[simp] theorem setup_setHold (t : Option Time) : (s.setHold t).setup = s.setup := rfl
@[simp] theorem setup_holdReports : s.holdReports.setup = s.setup := rfl

@[simp] theorem setup_derateAll : s.derateAll.setup = s.setup := by
  unfold State.derateAll
  rw [setup_setHold, foldl_keeps State.setup _ (fun s k => setup_derate s k)]

@[simp] theorem setup_startHold : s.startHold.setup = s.setup := by
  unfold State.startHold; simp only; split <;> simp

/-! ## Pairing that becomes degraded, and the copies it hands over -/

/-- The state with the copies handed over erased too: what an operation that may hand copies over leaves alone. -/
def State.bare (s : State) : State := { s.setup with handed := [] }

theorem bare_of_setup {s t : State} (h : t.setup = s.setup) : t.bare = s.bare := by unfold State.bare; rw [h]

@[simp] theorem bare_onLane (l : LaneId) (f : LanePort → LanePort) : (s.onLane l f).bare = s.bare := rfl
@[simp] theorem bare_raise (e : EventKind) (x : Subject) : (s.raise e x).bare = s.bare := rfl
@[simp] theorem bare_setDegraded (d : Bool) : (s.setDegraded d).bare = s.bare := rfl
@[simp] theorem bare_emptySlots : s.emptySlots.bare = s.bare := rfl
@[simp] theorem bare_resyncRepeat (l : LaneId) : (s.resyncRepeat l).bare = s.bare := bare_of_setup (setup_resyncRepeat s l)
@[simp] theorem bare_startHold : s.startHold.bare = s.bare := bare_of_setup (setup_startHold s)

@[simp] theorem bare_settleCopy (c : TruckId × RadioCopy) : (s.settleCopy c).bare = s.bare := by
  unfold State.settleCopy; split <;> rfl

@[simp] theorem bare_updateDegraded (l : Option LaneId) : (s.updateDegraded l).bare = s.bare := by
  unfold State.updateDegraded
  split
  · split
    · rfl
    · simp only
      rw [foldl_keeps State.bare _ (fun s c => bare_settleCopy s c), bare_emptySlots]
      split <;> simp
  · simp

@[simp] theorem bare_laneHeard (l : LaneId) : (s.laneHeard l).bare = s.bare := by
  unfold State.laneHeard; simp only; split
  · simp
  · split <;> simp

@[simp] theorem bare_laneQuiet (l : LaneId) : (s.laneQuiet l).bare = s.bare := by
  unfold State.laneQuiet; simp only; split <;> simp

@[simp] theorem bare_validTelegram (l : LaneId) (c : Octet) (f : Frame) : (s.validTelegram l c f).bare = s.bare := by
  unfold State.validTelegram; simp only; split
  · split <;> simp
  · simp

@[simp] theorem bare_judgeFrame (l : LaneId) (os : List Octet) : (s.judgeFrame l os).bare = s.bare := by
  unfold State.judgeFrame
  repeat' split
  all_goals simp

@[simp] theorem setup_dealHanded (c : TruckId × Inbound) : (s.dealHanded c).setup = s.setup := by simp [State.dealHanded]

/-- Once the copies handed over are dealt with, the state's other fields are as before the event that handed them over. -/
theorem setup_finishAll {before s : State} (h : s.bare = before.bare) : (State.finishAll before s).setup = before.setup := by
  have e : State.setup { s with handed := before.handed } = { s.bare with handed := before.handed } := rfl
  unfold State.finishAll
  rw [foldl_keeps State.setup _ (fun s c => setup_dealHanded s c), setup_finish, e, h]
  rfl

/-- No copy stays behind among those handed over. -/
@[simp] theorem handed_finishAll : (State.finishAll before s).handed = before.handed := by
  unfold State.finishAll
  rw [foldl_keeps State.handed _ (fun s c => handed_of_setup (setup_dealHanded s c)), handed_of_setup (setup_finish _ _)]

/-- The end of an event that has handed no copy over is that of any other event. -/
theorem finishAll_of_handed {before s : State} (h : s.handed = before.handed) :
    State.finishAll before s = State.finish before s := by
  unfold State.finishAll
  rw [← h]
  simp

/-- Settling a copy leaves every lane in its state. -/
@[simp] theorem settleCopy_laneState (c : TruckId × RadioCopy) (l : LaneId) :
    (s.settleCopy c).lanes[l].state = s.lanes[l].state := by
  unfold State.settleCopy
  split
  · rfl
  · have e := updateAt_get s.lanes c.2.lane l fun p => { p with counts := p.counts.bumpUnpaired }
    refine (congrArg LanePort.state e).trans ?_
    split
    · rename_i h; subst h; rfl
    · rfl

/-- Settling the copies hands over those from LIVE lanes, in order. -/
theorem handed_settleCopies (cs : List (TruckId × RadioCopy)) (s : State) :
    (cs.foldl State.settleCopy s).handed = s.handed
      ++ (cs.filter fun c => s.lanes[c.2.lane].state = .live).map fun c => (c.1, c.2.telegram) := by
  induction cs generalizing s with
  | nil => simp
  | cons c cs ih =>
    simp only [List.foldl_cons, ih, settleCopy_laneState, List.filter_cons]
    unfold State.settleCopy
    split <;> simp_all [State.countUnpaired]

@[simp] theorem setup_receiveOctet (l : LaneId) (o : LineOctet) : (s.receiveOctet l o).setup = s.setup := by
  unfold State.receiveOctet
  split
  · split <;> simp
  · split
    · simp
    · simp only; split
      · split
        · simp
        · split
          · exact setup_finishAll (bare_judgeFrame s l _)
          · simp
      · simp

theorem setup_takeRx {s t : State} {l : LaneId} {e : RxEntry} (h : s.takeRx l e = some t) : t.setup = s.setup := by
  unfold State.takeRx at h
  split at h
  · split at h
    · cases h; rfl
    · cases h
  · cases h

/-! ## Feeder supervision -/

@[simp] theorem setup_judgeOverdraw (k : SectionId) (a : Amps) : (s.judgeOverdraw k a).setup = s.setup := by
  unfold State.judgeOverdraw; simp only; split <;> simp

@[simp] theorem setup_recordReport (k : SectionId) (f : FeederFigures) : (s.recordReport k f).setup = s.setup := rfl
@[simp] theorem setup_setNextTurn (k : SectionId) : (s.setNextTurn k).setup = s.setup := rfl

@[simp] theorem setup_reportClosed (k : SectionId) (f : FeederFigures) :
    (State.reportClosed before s k f).setup = s.setup := by
  unfold State.reportClosed; simp only
  split <;> split <;> (try split) <;> simp

@[simp] theorem setup_suspendTruck (t : TruckId) : (s.suspendTruck t).setup = s.setup := rfl

@[simp] theorem setup_suspendTrucks (k : SectionId) : (s.suspendTrucks k).setup = s.setup :=
  foldl_keeps State.setup _ (fun s t => setup_suspendTruck s t) _ s

@[simp] theorem setup_clearApproaches (k : SectionId) : (s.clearApproaches k).setup = s.setup := rfl

@[simp] theorem setup_refuseHandovers (k : SectionId) (r : LowerReason) : (s.refuseHandovers k r).setup = s.setup := by
  unfold State.refuseHandovers; split
  · exact foldl_keeps State.setup _ (fun s e => setup_refuse s _ e r) _ s
  · rfl

@[simp] theorem setup_passAbove (k : SectionId) (es : List ApproachEntry) :
    (State.passAbove before s k es).setup = s.setup := by
  unfold State.passAbove; split
  · split <;> simp
  · rfl

@[simp] theorem setup_goDead (k : SectionId) : (State.goDead before s k).setup = s.setup := by
  unfold State.goDead; simp only [setup_raise]
  rw [foldl_keeps State.setup _ (fun s h => setup_sendLower s _ _ _ _)]
  simp

@[simp] theorem setup_giveUp (k : SectionId) (r : Option LowerReason) : (State.giveUp before s k r).setup = s.setup := by
  unfold State.giveUp; simp only [setup_raise]
  exact foldl_keeps State.setup _ (fun s t => setup_release s before t r true) _ s

@[simp] theorem setup_giveUpAny (k : SectionId) (r : Option LowerReason) :
    (State.giveUpAny before s k r).setup = s.setup := by
  unfold State.giveUpAny; split <;> simp

@[simp] theorem setup_startRestore (k : SectionId) : (State.startRestore before s k).setup = s.setup := by
  unfold State.startRestore; repeat' split
  all_goals simp

@[simp] theorem setup_stopRestore (k : SectionId) : (s.stopRestore k).setup = s.setup := rfl
@[simp] theorem setup_deadUnreported (k : SectionId) : (s.deadUnreported k).setup = s.setup := rfl

@[simp] theorem setup_reportOpen (k : SectionId) : (State.reportOpen before s k).setup = s.setup := by
  unfold State.reportOpen; split <;> simp

@[simp] theorem setup_reportLockedOut (k : SectionId) : (State.reportLockedOut before s k).setup = s.setup := by
  unfold State.reportLockedOut; simp only [setup_stopRestore]; split <;> simp

@[simp] theorem setup_feederReport (n : Nat) (f : FeederFigures) : (State.feederReport before s n f).setup = s.setup := by
  unfold State.feederReport
  repeat' split
  all_goals simp

@[simp] theorem setup_restoreHolder (k : SectionId) (t : TruckId) : (s.restoreHolder k t).setup = s.setup := rfl

@[simp] theorem setup_restoreTurn (k : SectionId) : (State.restoreTurn before s k).setup = s.setup := by
  unfold State.restoreTurn; split <;> simp

end Sys2Proof.Machine
end

