-- ==== Sys2Proof/Laws/Sending.lean ====
section
/-! SUPPORT. Sending a telegram changes the lanes and nothing else: one equation per sending operation, and from it one simp
lemma per field. -/

namespace Sys2Proof.Machine

variable (s before : State)

/-! ## What a sending operation can change -/

/-- Two states that differ at most in their lanes. -/
def State.sameButLanes (s t : State) : Prop := t = { s with lanes := t.lanes }

theorem sameButLanes_trans {s t u : State} (h : s.sameButLanes t) (g : t.sameButLanes u) : s.sameButLanes u := by
  unfold State.sameButLanes at *
  rw [g, h]

theorem foldl_sameButLanes {α : Type} (f : State → α → State) (h : ∀ s a, State.sameButLanes s (f s a)) (l : List α) :
    s.sameButLanes (l.foldl f s) := by
  induction l generalizing s with
  | nil => rfl
  | cons a l ih => exact sameButLanes_trans (h s a) (ih _)

theorem sendOn_lanesOnly (l : LaneId) (t : OutTelegram) : s.sameButLanes (s.sendOn l t) := rfl

theorem sendRole_lanesOnly (r : Role) (t : OutTelegram) : s.sameButLanes (s.sendRole r t) := by
  unfold State.sendRole; split <;> rfl

theorem sendRadio_lanesOnly (t : OutTelegram) (r : Role) : s.sameButLanes (s.sendRadio t r) := by
  unfold State.sendRadio; split
  · split <;> rfl
  · rfl

theorem sendTruck_lanesOnly (t : OutTelegram) : s.sameButLanes (s.sendTruck t) :=
  foldl_sameButLanes s _ (fun s r => sendRadio_lanesOnly s t r) _

theorem sendLower_lanesOnly (t : TruckId) (r : LowerReason) (b : Option BreakId) (p : Bool) :
    s.sameButLanes (s.sendLower t r b p) := sendTruck_lanesOnly s _

theorem reply_lanesOnly (c : ReplyCode) (a i : Octet) (v : Option ReplyValue) : s.sameButLanes (s.reply c a i v) :=
  sendRole_lanesOnly s _ _

theorem sendGrant_lanesOnly (k : SectionId) (h : Holder) (p : Bool) :
    s.sameButLanes (State.sendGrant before s k h p) := sendTruck_lanesOnly s _

theorem sendEvents_lanesOnly (ks : List EventKind) (r : Role) (m : MemberSet) (d : Octet) :
    s.sameButLanes (s.sendEvents ks r m d) := by
  unfold State.sendEvents; split
  · rfl
  · exact sendRole_lanesOnly s _ _

theorem flushEvents_lanesOnly : s.sameButLanes (State.flushEvents before s) :=
  sameButLanes_trans (sendEvents_lanesOnly s _ _ _ _) (sendEvents_lanesOnly _ _ _ _ _)

theorem sendGrants_lanesOnly (k : SectionId) (a : Option TruckId) : s.sameButLanes (State.sendGrants before s k a) :=
  foldl_sameButLanes s _ (fun s h => sendGrant_lanesOnly s before k h false) _

theorem sendLoad_lanesOnly (k : SectionId) : s.sameButLanes (s.sendLoad k) := sendRole_lanesOnly s _ _

theorem sendImage_lanesOnly (i : TableImage) : s.sameButLanes (s.sendImage i) := sendRole_lanesOnly s _ _

/-! ### sendOn -/

@[simp] theorem State.sendOn_now (l : LaneId) (t : OutTelegram) :
    (s.sendOn l t).now = s.now := by rw [sendOn_lanesOnly s l t]
@[simp] theorem State.sendOn_pins (l : LaneId) (t : OutTelegram) :
    (s.sendOn l t).pins = s.pins := by rw [sendOn_lanesOnly s l t]
@[simp] theorem State.sendOn_lock (l : LaneId) (t : OutTelegram) :
    (s.sendOn l t).lock = s.lock := by rw [sendOn_lanesOnly s l t]
@[simp] theorem State.sendOn_storeCell (l : LaneId) (t : OutTelegram) :
    (s.sendOn l t).storeCell = s.storeCell := by rw [sendOn_lanesOnly s l t]
@[simp] theorem State.sendOn_storeJob (l : LaneId) (t : OutTelegram) :
    (s.sendOn l t).storeJob = s.storeJob := by rw [sendOn_lanesOnly s l t]
@[simp] theorem State.sendOn_settings (l : LaneId) (t : OutTelegram) :
    (s.sendOn l t).settings = s.settings := by rw [sendOn_lanesOnly s l t]
@[simp] theorem State.sendOn_windowTimer (l : LaneId) (t : OutTelegram) :
    (s.sendOn l t).windowTimer = s.windowTimer := by rw [sendOn_lanesOnly s l t]
@[simp] theorem State.sendOn_degraded (l : LaneId) (t : OutTelegram) :
    (s.sendOn l t).degraded = s.degraded := by rw [sendOn_lanesOnly s l t]
@[simp] theorem State.sendOn_roster (l : LaneId) (t : OutTelegram) :
    (s.sendOn l t).roster = s.roster := by rw [sendOn_lanesOnly s l t]
@[simp] theorem State.sendOn_queues (l : LaneId) (t : OutTelegram) :
    (s.sendOn l t).queues = s.queues := by rw [sendOn_lanesOnly s l t]
@[simp] theorem State.sendOn_resyncOpened (l : LaneId) (t : OutTelegram) :
    (s.sendOn l t).resyncOpened = s.resyncOpened := by rw [sendOn_lanesOnly s l t]
@[simp] theorem State.sendOn_sections (l : LaneId) (t : OutTelegram) :
    (s.sendOn l t).sections = s.sections := by rw [sendOn_lanesOnly s l t]
@[simp] theorem State.sendOn_feeders (l : LaneId) (t : OutTelegram) :
    (s.sendOn l t).feeders = s.feeders := by rw [sendOn_lanesOnly s l t]
@[simp] theorem State.sendOn_holdTimer (l : LaneId) (t : OutTelegram) :
    (s.sendOn l t).holdTimer = s.holdTimer := by rw [sendOn_lanesOnly s l t]
@[simp] theorem State.sendOn_breaks (l : LaneId) (t : OutTelegram) :
    (s.sendOn l t).breaks = s.breaks := by rw [sendOn_lanesOnly s l t]
@[simp] theorem State.sendOn_refreshStart (l : LaneId) (t : OutTelegram) :
    (s.sendOn l t).refreshStart = s.refreshStart := by rw [sendOn_lanesOnly s l t]
@[simp] theorem State.sendOn_events (l : LaneId) (t : OutTelegram) :
    (s.sendOn l t).events = s.events := by rw [sendOn_lanesOnly s l t]
@[simp] theorem State.sendOn_lastCleared (l : LaneId) (t : OutTelegram) :
    (s.sendOn l t).lastCleared = s.lastCleared := by rw [sendOn_lanesOnly s l t]
@[simp] theorem State.sendOn_choices (l : LaneId) (t : OutTelegram) :
    (s.sendOn l t).choices = s.choices := by rw [sendOn_lanesOnly s l t]
@[simp] theorem State.sendOn_storesTaken (l : LaneId) (t : OutTelegram) :
    (s.sendOn l t).storesTaken = s.storesTaken := by rw [sendOn_lanesOnly s l t]
@[simp] theorem State.sendOn_handed (l : LaneId) (t : OutTelegram) :
    (s.sendOn l t).handed = s.handed := by rw [sendOn_lanesOnly s l t]
@[simp] theorem State.sendOn_pending (l : LaneId) (t : OutTelegram) :
    (s.sendOn l t).pending = s.pending := by rw [sendOn_lanesOnly s l t]

/-! ### sendRole -/

@[simp] theorem State.sendRole_now (r : Role) (t : OutTelegram) :
    (s.sendRole r t).now = s.now := by rw [sendRole_lanesOnly s r t]
@[simp] theorem State.sendRole_pins (r : Role) (t : OutTelegram) :
    (s.sendRole r t).pins = s.pins := by rw [sendRole_lanesOnly s r t]
@[simp] theorem State.sendRole_lock (r : Role) (t : OutTelegram) :
    (s.sendRole r t).lock = s.lock := by rw [sendRole_lanesOnly s r t]
@[simp] theorem State.sendRole_storeCell (r : Role) (t : OutTelegram) :
    (s.sendRole r t).storeCell = s.storeCell := by rw [sendRole_lanesOnly s r t]
@[simp] theorem State.sendRole_storeJob (r : Role) (t : OutTelegram) :
    (s.sendRole r t).storeJob = s.storeJob := by rw [sendRole_lanesOnly s r t]
@[simp] theorem State.sendRole_settings (r : Role) (t : OutTelegram) :
    (s.sendRole r t).settings = s.settings := by rw [sendRole_lanesOnly s r t]
@[simp] theorem State.sendRole_windowTimer (r : Role) (t : OutTelegram) :
    (s.sendRole r t).windowTimer = s.windowTimer := by rw [sendRole_lanesOnly s r t]
@[simp] theorem State.sendRole_degraded (r : Role) (t : OutTelegram) :
    (s.sendRole r t).degraded = s.degraded := by rw [sendRole_lanesOnly s r t]
@[simp] theorem State.sendRole_roster (r : Role) (t : OutTelegram) :
    (s.sendRole r t).roster = s.roster := by rw [sendRole_lanesOnly s r t]
@[simp] theorem State.sendRole_queues (r : Role) (t : OutTelegram) :
    (s.sendRole r t).queues = s.queues := by rw [sendRole_lanesOnly s r t]
@[simp] theorem State.sendRole_resyncOpened (r : Role) (t : OutTelegram) :
    (s.sendRole r t).resyncOpened = s.resyncOpened := by rw [sendRole_lanesOnly s r t]
@[simp] theorem State.sendRole_sections (r : Role) (t : OutTelegram) :
    (s.sendRole r t).sections = s.sections := by rw [sendRole_lanesOnly s r t]
@[simp] theorem State.sendRole_feeders (r : Role) (t : OutTelegram) :
    (s.sendRole r t).feeders = s.feeders := by rw [sendRole_lanesOnly s r t]
@[simp] theorem State.sendRole_holdTimer (r : Role) (t : OutTelegram) :
    (s.sendRole r t).holdTimer = s.holdTimer := by rw [sendRole_lanesOnly s r t]
@[simp] theorem State.sendRole_breaks (r : Role) (t : OutTelegram) :
    (s.sendRole r t).breaks = s.breaks := by rw [sendRole_lanesOnly s r t]
@[simp] theorem State.sendRole_refreshStart (r : Role) (t : OutTelegram) :
    (s.sendRole r t).refreshStart = s.refreshStart := by rw [sendRole_lanesOnly s r t]
@[simp] theorem State.sendRole_events (r : Role) (t : OutTelegram) :
    (s.sendRole r t).events = s.events := by rw [sendRole_lanesOnly s r t]
@[simp] theorem State.sendRole_lastCleared (r : Role) (t : OutTelegram) :
    (s.sendRole r t).lastCleared = s.lastCleared := by rw [sendRole_lanesOnly s r t]
@[simp] theorem State.sendRole_choices (r : Role) (t : OutTelegram) :
    (s.sendRole r t).choices = s.choices := by rw [sendRole_lanesOnly s r t]
@[simp] theorem State.sendRole_storesTaken (r : Role) (t : OutTelegram) :
    (s.sendRole r t).storesTaken = s.storesTaken := by rw [sendRole_lanesOnly s r t]
@[simp] theorem State.sendRole_handed (r : Role) (t : OutTelegram) :
    (s.sendRole r t).handed = s.handed := by rw [sendRole_lanesOnly s r t]
@[simp] theorem State.sendRole_pending (r : Role) (t : OutTelegram) :
    (s.sendRole r t).pending = s.pending := by rw [sendRole_lanesOnly s r t]

/-! ### sendTruck -/

@[simp] theorem State.sendTruck_now (t : OutTelegram) :
    (s.sendTruck t).now = s.now := by rw [sendTruck_lanesOnly s t]
@[simp] theorem State.sendTruck_pins (t : OutTelegram) :
    (s.sendTruck t).pins = s.pins := by rw [sendTruck_lanesOnly s t]
@[simp] theorem State.sendTruck_lock (t : OutTelegram) :
    (s.sendTruck t).lock = s.lock := by rw [sendTruck_lanesOnly s t]
@[simp] theorem State.sendTruck_storeCell (t : OutTelegram) :
    (s.sendTruck t).storeCell = s.storeCell := by rw [sendTruck_lanesOnly s t]
@[simp] theorem State.sendTruck_storeJob (t : OutTelegram) :
    (s.sendTruck t).storeJob = s.storeJob := by rw [sendTruck_lanesOnly s t]
@[simp] theorem State.sendTruck_settings (t : OutTelegram) :
    (s.sendTruck t).settings = s.settings := by rw [sendTruck_lanesOnly s t]
@[simp] theorem State.sendTruck_windowTimer (t : OutTelegram) :
    (s.sendTruck t).windowTimer = s.windowTimer := by rw [sendTruck_lanesOnly s t]
@[simp] theorem State.sendTruck_degraded (t : OutTelegram) :
    (s.sendTruck t).degraded = s.degraded := by rw [sendTruck_lanesOnly s t]
@[simp] theorem State.sendTruck_roster (t : OutTelegram) :
    (s.sendTruck t).roster = s.roster := by rw [sendTruck_lanesOnly s t]
@[simp] theorem State.sendTruck_queues (t : OutTelegram) :
    (s.sendTruck t).queues = s.queues := by rw [sendTruck_lanesOnly s t]
@[simp] theorem State.sendTruck_resyncOpened (t : OutTelegram) :
    (s.sendTruck t).resyncOpened = s.resyncOpened := by rw [sendTruck_lanesOnly s t]
@[simp] theorem State.sendTruck_sections (t : OutTelegram) :
    (s.sendTruck t).sections = s.sections := by rw [sendTruck_lanesOnly s t]
@[simp] theorem State.sendTruck_feeders (t : OutTelegram) :
    (s.sendTruck t).feeders = s.feeders := by rw [sendTruck_lanesOnly s t]
@[simp] theorem State.sendTruck_holdTimer (t : OutTelegram) :
    (s.sendTruck t).holdTimer = s.holdTimer := by rw [sendTruck_lanesOnly s t]
@[simp] theorem State.sendTruck_breaks (t : OutTelegram) :
    (s.sendTruck t).breaks = s.breaks := by rw [sendTruck_lanesOnly s t]
@[simp] theorem State.sendTruck_refreshStart (t : OutTelegram) :
    (s.sendTruck t).refreshStart = s.refreshStart := by rw [sendTruck_lanesOnly s t]
@[simp] theorem State.sendTruck_events (t : OutTelegram) :
    (s.sendTruck t).events = s.events := by rw [sendTruck_lanesOnly s t]
@[simp] theorem State.sendTruck_lastCleared (t : OutTelegram) :
    (s.sendTruck t).lastCleared = s.lastCleared := by rw [sendTruck_lanesOnly s t]
@[simp] theorem State.sendTruck_choices (t : OutTelegram) :
    (s.sendTruck t).choices = s.choices := by rw [sendTruck_lanesOnly s t]
@[simp] theorem State.sendTruck_storesTaken (t : OutTelegram) :
    (s.sendTruck t).storesTaken = s.storesTaken := by rw [sendTruck_lanesOnly s t]
@[simp] theorem State.sendTruck_handed (t : OutTelegram) :
    (s.sendTruck t).handed = s.handed := by rw [sendTruck_lanesOnly s t]
@[simp] theorem State.sendTruck_pending (t : OutTelegram) :
    (s.sendTruck t).pending = s.pending := by rw [sendTruck_lanesOnly s t]

/-! ### sendLower -/

@[simp] theorem State.sendLower_now (t : TruckId) (r : LowerReason) (b : Option BreakId) (p : Bool) :
    (s.sendLower t r b p).now = s.now := by rw [sendLower_lanesOnly s t r b p]
@[simp] theorem State.sendLower_pins (t : TruckId) (r : LowerReason) (b : Option BreakId) (p : Bool) :
    (s.sendLower t r b p).pins = s.pins := by rw [sendLower_lanesOnly s t r b p]
@[simp] theorem State.sendLower_lock (t : TruckId) (r : LowerReason) (b : Option BreakId) (p : Bool) :
    (s.sendLower t r b p).lock = s.lock := by rw [sendLower_lanesOnly s t r b p]
@[simp] theorem State.sendLower_storeCell (t : TruckId) (r : LowerReason) (b : Option BreakId) (p : Bool) :
    (s.sendLower t r b p).storeCell = s.storeCell := by rw [sendLower_lanesOnly s t r b p]
@[simp] theorem State.sendLower_storeJob (t : TruckId) (r : LowerReason) (b : Option BreakId) (p : Bool) :
    (s.sendLower t r b p).storeJob = s.storeJob := by rw [sendLower_lanesOnly s t r b p]
@[simp] theorem State.sendLower_settings (t : TruckId) (r : LowerReason) (b : Option BreakId) (p : Bool) :
    (s.sendLower t r b p).settings = s.settings := by rw [sendLower_lanesOnly s t r b p]
@[simp] theorem State.sendLower_windowTimer (t : TruckId) (r : LowerReason) (b : Option BreakId) (p : Bool) :
    (s.sendLower t r b p).windowTimer = s.windowTimer := by rw [sendLower_lanesOnly s t r b p]
@[simp] theorem State.sendLower_degraded (t : TruckId) (r : LowerReason) (b : Option BreakId) (p : Bool) :
    (s.sendLower t r b p).degraded = s.degraded := by rw [sendLower_lanesOnly s t r b p]
@[simp] theorem State.sendLower_roster (t : TruckId) (r : LowerReason) (b : Option BreakId) (p : Bool) :
    (s.sendLower t r b p).roster = s.roster := by rw [sendLower_lanesOnly s t r b p]
@[simp] theorem State.sendLower_queues (t : TruckId) (r : LowerReason) (b : Option BreakId) (p : Bool) :
    (s.sendLower t r b p).queues = s.queues := by rw [sendLower_lanesOnly s t r b p]
@[simp] theorem State.sendLower_resyncOpened (t : TruckId) (r : LowerReason) (b : Option BreakId) (p : Bool) :
    (s.sendLower t r b p).resyncOpened = s.resyncOpened := by rw [sendLower_lanesOnly s t r b p]
@[simp] theorem State.sendLower_sections (t : TruckId) (r : LowerReason) (b : Option BreakId) (p : Bool) :
    (s.sendLower t r b p).sections = s.sections := by rw [sendLower_lanesOnly s t r b p]
@[simp] theorem State.sendLower_feeders (t : TruckId) (r : LowerReason) (b : Option BreakId) (p : Bool) :
    (s.sendLower t r b p).feeders = s.feeders := by rw [sendLower_lanesOnly s t r b p]
@[simp] theorem State.sendLower_holdTimer (t : TruckId) (r : LowerReason) (b : Option BreakId) (p : Bool) :
    (s.sendLower t r b p).holdTimer = s.holdTimer := by rw [sendLower_lanesOnly s t r b p]
@[simp] theorem State.sendLower_breaks (t : TruckId) (r : LowerReason) (b : Option BreakId) (p : Bool) :
    (s.sendLower t r b p).breaks = s.breaks := by rw [sendLower_lanesOnly s t r b p]
@[simp] theorem State.sendLower_refreshStart (t : TruckId) (r : LowerReason) (b : Option BreakId) (p : Bool) :
    (s.sendLower t r b p).refreshStart = s.refreshStart := by rw [sendLower_lanesOnly s t r b p]
@[simp] theorem State.sendLower_events (t : TruckId) (r : LowerReason) (b : Option BreakId) (p : Bool) :
    (s.sendLower t r b p).events = s.events := by rw [sendLower_lanesOnly s t r b p]
@[simp] theorem State.sendLower_lastCleared (t : TruckId) (r : LowerReason) (b : Option BreakId) (p : Bool) :
    (s.sendLower t r b p).lastCleared = s.lastCleared := by rw [sendLower_lanesOnly s t r b p]
@[simp] theorem State.sendLower_choices (t : TruckId) (r : LowerReason) (b : Option BreakId) (p : Bool) :
    (s.sendLower t r b p).choices = s.choices := by rw [sendLower_lanesOnly s t r b p]
@[simp] theorem State.sendLower_storesTaken (t : TruckId) (r : LowerReason) (b : Option BreakId) (p : Bool) :
    (s.sendLower t r b p).storesTaken = s.storesTaken := by rw [sendLower_lanesOnly s t r b p]
@[simp] theorem State.sendLower_handed (t : TruckId) (r : LowerReason) (b : Option BreakId) (p : Bool) :
    (s.sendLower t r b p).handed = s.handed := by rw [sendLower_lanesOnly s t r b p]
@[simp] theorem State.sendLower_pending (t : TruckId) (r : LowerReason) (b : Option BreakId) (p : Bool) :
    (s.sendLower t r b p).pending = s.pending := by rw [sendLower_lanesOnly s t r b p]

/-! ### reply -/

@[simp] theorem State.reply_now (c : ReplyCode) (a i : Octet) (v : Option ReplyValue) :
    (s.reply c a i v).now = s.now := by rw [reply_lanesOnly s c a i v]
@[simp] theorem State.reply_pins (c : ReplyCode) (a i : Octet) (v : Option ReplyValue) :
    (s.reply c a i v).pins = s.pins := by rw [reply_lanesOnly s c a i v]
@[simp] theorem State.reply_lock (c : ReplyCode) (a i : Octet) (v : Option ReplyValue) :
    (s.reply c a i v).lock = s.lock := by rw [reply_lanesOnly s c a i v]
@[simp] theorem State.reply_storeCell (c : ReplyCode) (a i : Octet) (v : Option ReplyValue) :
    (s.reply c a i v).storeCell = s.storeCell := by rw [reply_lanesOnly s c a i v]
@[simp] theorem State.reply_storeJob (c : ReplyCode) (a i : Octet) (v : Option ReplyValue) :
    (s.reply c a i v).storeJob = s.storeJob := by rw [reply_lanesOnly s c a i v]
@[simp] theorem State.reply_settings (c : ReplyCode) (a i : Octet) (v : Option ReplyValue) :
    (s.reply c a i v).settings = s.settings := by rw [reply_lanesOnly s c a i v]
@[simp] theorem State.reply_windowTimer (c : ReplyCode) (a i : Octet) (v : Option ReplyValue) :
    (s.reply c a i v).windowTimer = s.windowTimer := by rw [reply_lanesOnly s c a i v]
@[simp] theorem State.reply_degraded (c : ReplyCode) (a i : Octet) (v : Option ReplyValue) :
    (s.reply c a i v).degraded = s.degraded := by rw [reply_lanesOnly s c a i v]
@[simp] theorem State.reply_roster (c : ReplyCode) (a i : Octet) (v : Option ReplyValue) :
    (s.reply c a i v).roster = s.roster := by rw [reply_lanesOnly s c a i v]
@[simp] theorem State.reply_queues (c : ReplyCode) (a i : Octet) (v : Option ReplyValue) :
    (s.reply c a i v).queues = s.queues := by rw [reply_lanesOnly s c a i v]
@[simp] theorem State.reply_resyncOpened (c : ReplyCode) (a i : Octet) (v : Option ReplyValue) :
    (s.reply c a i v).resyncOpened = s.resyncOpened := by rw [reply_lanesOnly s c a i v]
@[simp] theorem State.reply_sections (c : ReplyCode) (a i : Octet) (v : Option ReplyValue) :
    (s.reply c a i v).sections = s.sections := by rw [reply_lanesOnly s c a i v]
@[simp] theorem State.reply_feeders (c : ReplyCode) (a i : Octet) (v : Option ReplyValue) :
    (s.reply c a i v).feeders = s.feeders := by rw [reply_lanesOnly s c a i v]
@[simp] theorem State.reply_holdTimer (c : ReplyCode) (a i : Octet) (v : Option ReplyValue) :
    (s.reply c a i v).holdTimer = s.holdTimer := by rw [reply_lanesOnly s c a i v]
@[simp] theorem State.reply_breaks (c : ReplyCode) (a i : Octet) (v : Option ReplyValue) :
    (s.reply c a i v).breaks = s.breaks := by rw [reply_lanesOnly s c a i v]
@[simp] theorem State.reply_refreshStart (c : ReplyCode) (a i : Octet) (v : Option ReplyValue) :
    (s.reply c a i v).refreshStart = s.refreshStart := by rw [reply_lanesOnly s c a i v]
@[simp] theorem State.reply_events (c : ReplyCode) (a i : Octet) (v : Option ReplyValue) :
    (s.reply c a i v).events = s.events := by rw [reply_lanesOnly s c a i v]
@[simp] theorem State.reply_lastCleared (c : ReplyCode) (a i : Octet) (v : Option ReplyValue) :
    (s.reply c a i v).lastCleared = s.lastCleared := by rw [reply_lanesOnly s c a i v]
@[simp] theorem State.reply_choices (c : ReplyCode) (a i : Octet) (v : Option ReplyValue) :
    (s.reply c a i v).choices = s.choices := by rw [reply_lanesOnly s c a i v]
@[simp] theorem State.reply_storesTaken (c : ReplyCode) (a i : Octet) (v : Option ReplyValue) :
    (s.reply c a i v).storesTaken = s.storesTaken := by rw [reply_lanesOnly s c a i v]
@[simp] theorem State.reply_handed (c : ReplyCode) (a i : Octet) (v : Option ReplyValue) :
    (s.reply c a i v).handed = s.handed := by rw [reply_lanesOnly s c a i v]
@[simp] theorem State.reply_pending (c : ReplyCode) (a i : Octet) (v : Option ReplyValue) :
    (s.reply c a i v).pending = s.pending := by rw [reply_lanesOnly s c a i v]

/-! ### sendGrant -/

@[simp] theorem State.sendGrant_now (k : SectionId) (h : Holder) (p : Bool) :
    (State.sendGrant before s k h p).now = s.now := by rw [sendGrant_lanesOnly s before k h p]
@[simp] theorem State.sendGrant_pins (k : SectionId) (h : Holder) (p : Bool) :
    (State.sendGrant before s k h p).pins = s.pins := by rw [sendGrant_lanesOnly s before k h p]
@[simp] theorem State.sendGrant_lock (k : SectionId) (h : Holder) (p : Bool) :
    (State.sendGrant before s k h p).lock = s.lock := by rw [sendGrant_lanesOnly s before k h p]
@[simp] theorem State.sendGrant_storeCell (k : SectionId) (h : Holder) (p : Bool) :
    (State.sendGrant before s k h p).storeCell = s.storeCell := by rw [sendGrant_lanesOnly s before k h p]
@[simp] theorem State.sendGrant_storeJob (k : SectionId) (h : Holder) (p : Bool) :
    (State.sendGrant before s k h p).storeJob = s.storeJob := by rw [sendGrant_lanesOnly s before k h p]
@[simp] theorem State.sendGrant_settings (k : SectionId) (h : Holder) (p : Bool) :
    (State.sendGrant before s k h p).settings = s.settings := by rw [sendGrant_lanesOnly s before k h p]
@[simp] theorem State.sendGrant_windowTimer (k : SectionId) (h : Holder) (p : Bool) :
    (State.sendGrant before s k h p).windowTimer = s.windowTimer := by rw [sendGrant_lanesOnly s before k h p]
@[simp] theorem State.sendGrant_degraded (k : SectionId) (h : Holder) (p : Bool) :
    (State.sendGrant before s k h p).degraded = s.degraded := by rw [sendGrant_lanesOnly s before k h p]
@[simp] theorem State.sendGrant_roster (k : SectionId) (h : Holder) (p : Bool) :
    (State.sendGrant before s k h p).roster = s.roster := by rw [sendGrant_lanesOnly s before k h p]
@[simp] theorem State.sendGrant_queues (k : SectionId) (h : Holder) (p : Bool) :
    (State.sendGrant before s k h p).queues = s.queues := by rw [sendGrant_lanesOnly s before k h p]
@[simp] theorem State.sendGrant_resyncOpened (k : SectionId) (h : Holder) (p : Bool) :
    (State.sendGrant before s k h p).resyncOpened = s.resyncOpened := by rw [sendGrant_lanesOnly s before k h p]
@[simp] theorem State.sendGrant_sections (k : SectionId) (h : Holder) (p : Bool) :
    (State.sendGrant before s k h p).sections = s.sections := by rw [sendGrant_lanesOnly s before k h p]
@[simp] theorem State.sendGrant_feeders (k : SectionId) (h : Holder) (p : Bool) :
    (State.sendGrant before s k h p).feeders = s.feeders := by rw [sendGrant_lanesOnly s before k h p]
@[simp] theorem State.sendGrant_holdTimer (k : SectionId) (h : Holder) (p : Bool) :
    (State.sendGrant before s k h p).holdTimer = s.holdTimer := by rw [sendGrant_lanesOnly s before k h p]
@[simp] theorem State.sendGrant_breaks (k : SectionId) (h : Holder) (p : Bool) :
    (State.sendGrant before s k h p).breaks = s.breaks := by rw [sendGrant_lanesOnly s before k h p]
@[simp] theorem State.sendGrant_refreshStart (k : SectionId) (h : Holder) (p : Bool) :
    (State.sendGrant before s k h p).refreshStart = s.refreshStart := by rw [sendGrant_lanesOnly s before k h p]
@[simp] theorem State.sendGrant_events (k : SectionId) (h : Holder) (p : Bool) :
    (State.sendGrant before s k h p).events = s.events := by rw [sendGrant_lanesOnly s before k h p]
@[simp] theorem State.sendGrant_lastCleared (k : SectionId) (h : Holder) (p : Bool) :
    (State.sendGrant before s k h p).lastCleared = s.lastCleared := by rw [sendGrant_lanesOnly s before k h p]
@[simp] theorem State.sendGrant_choices (k : SectionId) (h : Holder) (p : Bool) :
    (State.sendGrant before s k h p).choices = s.choices := by rw [sendGrant_lanesOnly s before k h p]
@[simp] theorem State.sendGrant_storesTaken (k : SectionId) (h : Holder) (p : Bool) :
    (State.sendGrant before s k h p).storesTaken = s.storesTaken := by rw [sendGrant_lanesOnly s before k h p]
@[simp] theorem State.sendGrant_handed (k : SectionId) (h : Holder) (p : Bool) :
    (State.sendGrant before s k h p).handed = s.handed := by rw [sendGrant_lanesOnly s before k h p]
@[simp] theorem State.sendGrant_pending (k : SectionId) (h : Holder) (p : Bool) :
    (State.sendGrant before s k h p).pending = s.pending := by rw [sendGrant_lanesOnly s before k h p]

/-! ### flushEvents -/

@[simp] theorem State.flushEvents_now :
    (State.flushEvents before s).now = s.now := by rw [flushEvents_lanesOnly s before]
@[simp] theorem State.flushEvents_pins :
    (State.flushEvents before s).pins = s.pins := by rw [flushEvents_lanesOnly s before]
@[simp] theorem State.flushEvents_lock :
    (State.flushEvents before s).lock = s.lock := by rw [flushEvents_lanesOnly s before]
@[simp] theorem State.flushEvents_storeCell :
    (State.flushEvents before s).storeCell = s.storeCell := by rw [flushEvents_lanesOnly s before]
@[simp] theorem State.flushEvents_storeJob :
    (State.flushEvents before s).storeJob = s.storeJob := by rw [flushEvents_lanesOnly s before]
@[simp] theorem State.flushEvents_settings :
    (State.flushEvents before s).settings = s.settings := by rw [flushEvents_lanesOnly s before]
@[simp] theorem State.flushEvents_windowTimer :
    (State.flushEvents before s).windowTimer = s.windowTimer := by rw [flushEvents_lanesOnly s before]
@[simp] theorem State.flushEvents_degraded :
    (State.flushEvents before s).degraded = s.degraded := by rw [flushEvents_lanesOnly s before]
@[simp] theorem State.flushEvents_roster :
    (State.flushEvents before s).roster = s.roster := by rw [flushEvents_lanesOnly s before]
@[simp] theorem State.flushEvents_queues :
    (State.flushEvents before s).queues = s.queues := by rw [flushEvents_lanesOnly s before]
@[simp] theorem State.flushEvents_resyncOpened :
    (State.flushEvents before s).resyncOpened = s.resyncOpened := by rw [flushEvents_lanesOnly s before]
@[simp] theorem State.flushEvents_sections :
    (State.flushEvents before s).sections = s.sections := by rw [flushEvents_lanesOnly s before]
@[simp] theorem State.flushEvents_feeders :
    (State.flushEvents before s).feeders = s.feeders := by rw [flushEvents_lanesOnly s before]
@[simp] theorem State.flushEvents_holdTimer :
    (State.flushEvents before s).holdTimer = s.holdTimer := by rw [flushEvents_lanesOnly s before]
@[simp] theorem State.flushEvents_breaks :
    (State.flushEvents before s).breaks = s.breaks := by rw [flushEvents_lanesOnly s before]
@[simp] theorem State.flushEvents_refreshStart :
    (State.flushEvents before s).refreshStart = s.refreshStart := by rw [flushEvents_lanesOnly s before]
@[simp] theorem State.flushEvents_events :
    (State.flushEvents before s).events = s.events := by rw [flushEvents_lanesOnly s before]
@[simp] theorem State.flushEvents_lastCleared :
    (State.flushEvents before s).lastCleared = s.lastCleared := by rw [flushEvents_lanesOnly s before]
@[simp] theorem State.flushEvents_choices :
    (State.flushEvents before s).choices = s.choices := by rw [flushEvents_lanesOnly s before]
@[simp] theorem State.flushEvents_storesTaken :
    (State.flushEvents before s).storesTaken = s.storesTaken := by rw [flushEvents_lanesOnly s before]
@[simp] theorem State.flushEvents_handed :
    (State.flushEvents before s).handed = s.handed := by rw [flushEvents_lanesOnly s before]
@[simp] theorem State.flushEvents_pending :
    (State.flushEvents before s).pending = s.pending := by rw [flushEvents_lanesOnly s before]

/-! ### sendGrants -/

@[simp] theorem State.sendGrants_now (k : SectionId) (a : Option TruckId) :
    (State.sendGrants before s k a).now = s.now := by rw [sendGrants_lanesOnly s before k a]
@[simp] theorem State.sendGrants_pins (k : SectionId) (a : Option TruckId) :
    (State.sendGrants before s k a).pins = s.pins := by rw [sendGrants_lanesOnly s before k a]
@[simp] theorem State.sendGrants_lock (k : SectionId) (a : Option TruckId) :
    (State.sendGrants before s k a).lock = s.lock := by rw [sendGrants_lanesOnly s before k a]
@[simp] theorem State.sendGrants_storeCell (k : SectionId) (a : Option TruckId) :
    (State.sendGrants before s k a).storeCell = s.storeCell := by rw [sendGrants_lanesOnly s before k a]
@[simp] theorem State.sendGrants_storeJob (k : SectionId) (a : Option TruckId) :
    (State.sendGrants before s k a).storeJob = s.storeJob := by rw [sendGrants_lanesOnly s before k a]
@[simp] theorem State.sendGrants_settings (k : SectionId) (a : Option TruckId) :
    (State.sendGrants before s k a).settings = s.settings := by rw [sendGrants_lanesOnly s before k a]
@[simp] theorem State.sendGrants_windowTimer (k : SectionId) (a : Option TruckId) :
    (State.sendGrants before s k a).windowTimer = s.windowTimer := by rw [sendGrants_lanesOnly s before k a]
@[simp] theorem State.sendGrants_degraded (k : SectionId) (a : Option TruckId) :
    (State.sendGrants before s k a).degraded = s.degraded := by rw [sendGrants_lanesOnly s before k a]
@[simp] theorem State.sendGrants_roster (k : SectionId) (a : Option TruckId) :
    (State.sendGrants before s k a).roster = s.roster := by rw [sendGrants_lanesOnly s before k a]
@[simp] theorem State.sendGrants_queues (k : SectionId) (a : Option TruckId) :
    (State.sendGrants before s k a).queues = s.queues := by rw [sendGrants_lanesOnly s before k a]
@[simp] theorem State.sendGrants_resyncOpened (k : SectionId) (a : Option TruckId) :
    (State.sendGrants before s k a).resyncOpened = s.resyncOpened := by rw [sendGrants_lanesOnly s before k a]
@[simp] theorem State.sendGrants_sections (k : SectionId) (a : Option TruckId) :
    (State.sendGrants before s k a).sections = s.sections := by rw [sendGrants_lanesOnly s before k a]
@[simp] theorem State.sendGrants_feeders (k : SectionId) (a : Option TruckId) :
    (State.sendGrants before s k a).feeders = s.feeders := by rw [sendGrants_lanesOnly s before k a]
@[simp] theorem State.sendGrants_holdTimer (k : SectionId) (a : Option TruckId) :
    (State.sendGrants before s k a).holdTimer = s.holdTimer := by rw [sendGrants_lanesOnly s before k a]
@[simp] theorem State.sendGrants_breaks (k : SectionId) (a : Option TruckId) :
    (State.sendGrants before s k a).breaks = s.breaks := by rw [sendGrants_lanesOnly s before k a]
@[simp] theorem State.sendGrants_refreshStart (k : SectionId) (a : Option TruckId) :
    (State.sendGrants before s k a).refreshStart = s.refreshStart := by rw [sendGrants_lanesOnly s before k a]
@[simp] theorem State.sendGrants_events (k : SectionId) (a : Option TruckId) :
    (State.sendGrants before s k a).events = s.events := by rw [sendGrants_lanesOnly s before k a]
@[simp] theorem State.sendGrants_lastCleared (k : SectionId) (a : Option TruckId) :
    (State.sendGrants before s k a).lastCleared = s.lastCleared := by rw [sendGrants_lanesOnly s before k a]
@[simp] theorem State.sendGrants_choices (k : SectionId) (a : Option TruckId) :
    (State.sendGrants before s k a).choices = s.choices := by rw [sendGrants_lanesOnly s before k a]
@[simp] theorem State.sendGrants_storesTaken (k : SectionId) (a : Option TruckId) :
    (State.sendGrants before s k a).storesTaken = s.storesTaken := by rw [sendGrants_lanesOnly s before k a]
@[simp] theorem State.sendGrants_handed (k : SectionId) (a : Option TruckId) :
    (State.sendGrants before s k a).handed = s.handed := by rw [sendGrants_lanesOnly s before k a]
@[simp] theorem State.sendGrants_pending (k : SectionId) (a : Option TruckId) :
    (State.sendGrants before s k a).pending = s.pending := by rw [sendGrants_lanesOnly s before k a]

/-! ### sendLoad -/

@[simp] theorem State.sendLoad_now (k : SectionId) :
    (s.sendLoad k).now = s.now := by rw [sendLoad_lanesOnly s k]
@[simp] theorem State.sendLoad_pins (k : SectionId) :
    (s.sendLoad k).pins = s.pins := by rw [sendLoad_lanesOnly s k]
@[simp] theorem State.sendLoad_lock (k : SectionId) :
    (s.sendLoad k).lock = s.lock := by rw [sendLoad_lanesOnly s k]
@[simp] theorem State.sendLoad_storeCell (k : SectionId) :
    (s.sendLoad k).storeCell = s.storeCell := by rw [sendLoad_lanesOnly s k]
@[simp] theorem State.sendLoad_storeJob (k : SectionId) :
    (s.sendLoad k).storeJob = s.storeJob := by rw [sendLoad_lanesOnly s k]
@[simp] theorem State.sendLoad_settings (k : SectionId) :
    (s.sendLoad k).settings = s.settings := by rw [sendLoad_lanesOnly s k]
@[simp] theorem State.sendLoad_windowTimer (k : SectionId) :
    (s.sendLoad k).windowTimer = s.windowTimer := by rw [sendLoad_lanesOnly s k]
@[simp] theorem State.sendLoad_degraded (k : SectionId) :
    (s.sendLoad k).degraded = s.degraded := by rw [sendLoad_lanesOnly s k]
@[simp] theorem State.sendLoad_roster (k : SectionId) :
    (s.sendLoad k).roster = s.roster := by rw [sendLoad_lanesOnly s k]
@[simp] theorem State.sendLoad_queues (k : SectionId) :
    (s.sendLoad k).queues = s.queues := by rw [sendLoad_lanesOnly s k]
@[simp] theorem State.sendLoad_resyncOpened (k : SectionId) :
    (s.sendLoad k).resyncOpened = s.resyncOpened := by rw [sendLoad_lanesOnly s k]
@[simp] theorem State.sendLoad_sections (k : SectionId) :
    (s.sendLoad k).sections = s.sections := by rw [sendLoad_lanesOnly s k]
@[simp] theorem State.sendLoad_feeders (k : SectionId) :
    (s.sendLoad k).feeders = s.feeders := by rw [sendLoad_lanesOnly s k]
@[simp] theorem State.sendLoad_holdTimer (k : SectionId) :
    (s.sendLoad k).holdTimer = s.holdTimer := by rw [sendLoad_lanesOnly s k]
@[simp] theorem State.sendLoad_breaks (k : SectionId) :
    (s.sendLoad k).breaks = s.breaks := by rw [sendLoad_lanesOnly s k]
@[simp] theorem State.sendLoad_refreshStart (k : SectionId) :
    (s.sendLoad k).refreshStart = s.refreshStart := by rw [sendLoad_lanesOnly s k]
@[simp] theorem State.sendLoad_events (k : SectionId) :
    (s.sendLoad k).events = s.events := by rw [sendLoad_lanesOnly s k]
@[simp] theorem State.sendLoad_lastCleared (k : SectionId) :
    (s.sendLoad k).lastCleared = s.lastCleared := by rw [sendLoad_lanesOnly s k]
@[simp] theorem State.sendLoad_choices (k : SectionId) :
    (s.sendLoad k).choices = s.choices := by rw [sendLoad_lanesOnly s k]
@[simp] theorem State.sendLoad_storesTaken (k : SectionId) :
    (s.sendLoad k).storesTaken = s.storesTaken := by rw [sendLoad_lanesOnly s k]
@[simp] theorem State.sendLoad_handed (k : SectionId) :
    (s.sendLoad k).handed = s.handed := by rw [sendLoad_lanesOnly s k]
@[simp] theorem State.sendLoad_pending (k : SectionId) :
    (s.sendLoad k).pending = s.pending := by rw [sendLoad_lanesOnly s k]

/-! ### sendImage -/

@[simp] theorem State.sendImage_now (i : TableImage) :
    (s.sendImage i).now = s.now := by rw [sendImage_lanesOnly s i]
@[simp] theorem State.sendImage_pins (i : TableImage) :
    (s.sendImage i).pins = s.pins := by rw [sendImage_lanesOnly s i]
@[simp] theorem State.sendImage_lock (i : TableImage) :
    (s.sendImage i).lock = s.lock := by rw [sendImage_lanesOnly s i]
@[simp] theorem State.sendImage_storeCell (i : TableImage) :
    (s.sendImage i).storeCell = s.storeCell := by rw [sendImage_lanesOnly s i]
@[simp] theorem State.sendImage_storeJob (i : TableImage) :
    (s.sendImage i).storeJob = s.storeJob := by rw [sendImage_lanesOnly s i]
@[simp] theorem State.sendImage_settings (i : TableImage) :
    (s.sendImage i).settings = s.settings := by rw [sendImage_lanesOnly s i]
@[simp] theorem State.sendImage_windowTimer (i : TableImage) :
    (s.sendImage i).windowTimer = s.windowTimer := by rw [sendImage_lanesOnly s i]
@[simp] theorem State.sendImage_degraded (i : TableImage) :
    (s.sendImage i).degraded = s.degraded := by rw [sendImage_lanesOnly s i]
@[simp] theorem State.sendImage_roster (i : TableImage) :
    (s.sendImage i).roster = s.roster := by rw [sendImage_lanesOnly s i]
@[simp] theorem State.sendImage_queues (i : TableImage) :
    (s.sendImage i).queues = s.queues := by rw [sendImage_lanesOnly s i]
@[simp] theorem State.sendImage_resyncOpened (i : TableImage) :
    (s.sendImage i).resyncOpened = s.resyncOpened := by rw [sendImage_lanesOnly s i]
@[simp] theorem State.sendImage_sections (i : TableImage) :
    (s.sendImage i).sections = s.sections := by rw [sendImage_lanesOnly s i]
@[simp] theorem State.sendImage_feeders (i : TableImage) :
    (s.sendImage i).feeders = s.feeders := by rw [sendImage_lanesOnly s i]
@[simp] theorem State.sendImage_holdTimer (i : TableImage) :
    (s.sendImage i).holdTimer = s.holdTimer := by rw [sendImage_lanesOnly s i]
@[simp] theorem State.sendImage_breaks (i : TableImage) :
    (s.sendImage i).breaks = s.breaks := by rw [sendImage_lanesOnly s i]
@[simp] theorem State.sendImage_refreshStart (i : TableImage) :
    (s.sendImage i).refreshStart = s.refreshStart := by rw [sendImage_lanesOnly s i]
@[simp] theorem State.sendImage_events (i : TableImage) :
    (s.sendImage i).events = s.events := by rw [sendImage_lanesOnly s i]
@[simp] theorem State.sendImage_lastCleared (i : TableImage) :
    (s.sendImage i).lastCleared = s.lastCleared := by rw [sendImage_lanesOnly s i]
@[simp] theorem State.sendImage_choices (i : TableImage) :
    (s.sendImage i).choices = s.choices := by rw [sendImage_lanesOnly s i]
@[simp] theorem State.sendImage_storesTaken (i : TableImage) :
    (s.sendImage i).storesTaken = s.storesTaken := by rw [sendImage_lanesOnly s i]
@[simp] theorem State.sendImage_handed (i : TableImage) :
    (s.sendImage i).handed = s.handed := by rw [sendImage_lanesOnly s i]
@[simp] theorem State.sendImage_pending (i : TableImage) :
    (s.sendImage i).pending = s.pending := by rw [sendImage_lanesOnly s i]

end Sys2Proof.Machine
end

