-- ==== Sys2Proof/Laws/Ops.lean ====
section
/-! SUPPORT. One lemma per shared operation that says what it can do: records by truck, transmit queues, admission queues,
position reports, the end of an event, receive queues, capacities and demands. -/

namespace Sys2Proof.Machine

/-! ## Tables -/

theorem updateAt_eq_self {α : Type} {n : Nat} (v : Vector α n) (i : Fin n) (f : α → α) (h : f v[i] = v[i]) :
    updateAt v i f = v := by
  apply Vector.ext
  intro j hj
  have := updateAt_get v i ⟨j, hj⟩ f
  simp only [Fin.getElem_fin] at this h
  rw [this]
  split
  · rename_i e
    subst e
    exact h
  · rfl

/-! ## Records by truck (R17) -/

/-- A change of a truck's record that keeps the ID is seen at that truck and at no other. -/
theorem truck?_onTruck (s : State) (t x : TruckId) (f : Truck → Truck) (h : ∀ r : Truck, (f r).id = r.id) :
    (s.onTruck t f).truck? x = (s.truck? x).map fun r => if r.id = t then f r else r := by
  have key : ∀ rs : List Truck,
      (rs.map fun r => if r.id = t then f r else r).find? (fun r => r.id == x)
        = (rs.find? fun r => r.id == x).map fun r => if r.id = t then f r else r := by
    intro rs
    induction rs with
    | nil => rfl
    | cons r rs ih =>
      have e : (if r.id = t then f r else r).id = r.id := by split <;> simp [h]
      by_cases hx : r.id = x
      · rw [List.map_cons, List.find?_cons_of_pos (by rw [beq_iff_eq]; exact e.trans hx), List.find?_cons_of_pos (by simp [hx])]
        rfl
      · rw [List.map_cons, List.find?_cons_of_neg (by rw [beq_iff_eq]; exact fun h => hx (e.symm.trans h)), List.find?_cons_of_neg (by simp [hx]), ih]
  exact key s.roster

/-- The record found for a truck ID carries that ID. -/
theorem truck?_id {s : State} {t : TruckId} {r : Truck} (h : s.truck? t = some r) : r.id = t := by
  have := List.find?_some h
  simpa using this

/-- A truck that has a record stands on the roster. -/
theorem truck?_mem {s : State} {t : TruckId} {r : Truck} (h : s.truck? t = some r) : r ∈ s.roster :=
  List.mem_of_find?_eq_some h

/-- A change of one truck's record that keeps the ID leaves the roster's IDs. -/
theorem onTruck_ids (s : State) (t : TruckId) (f : Truck → Truck) (h : ∀ r : Truck, (f r).id = r.id) :
    (s.onTruck t f).roster.map (fun r => r.id) = s.roster.map fun r => r.id := by
  simp only [State.onTruck, List.map_map]
  apply List.map_congr_left
  intro r _
  simp only [Function.comp]
  split <;> simp [h]

/-! ## Transmit queues (R149, R150) -/

theorem replaceFirst_length {t : OutTelegram} {l m : List OutTelegram} (h : replaceFirst t l = some m) :
    m.length = l.length := by
  induction l generalizing m with
  | nil => simp [replaceFirst] at h
  | cons x rest ih =>
    simp only [replaceFirst] at h
    split at h
    · split at h
      · cases h; rfl
      · cases h
    · simp only [Option.map_eq_some_iff] at h
      obtain ⟨y, hy, rfl⟩ := h
      simp [ih hy]

/-- A replacement in place keeps the length of the transmit queue (R150). -/
theorem replacedIn_length {t : OutTelegram} {l m : List OutTelegram} (h : replacedIn t l = some m) :
    m.length = l.length := by
  unfold replacedIn at h
  split at h
  · simp only [Option.map_eq_some_iff] at h
    obtain ⟨y, hy, rfl⟩ := h
    simpa using replaceFirst_length hy
  · cases h

/-- A transmit queue that holds at most 16 telegrams still does after one is offered (R149). -/
theorem offer_tx_length {p : LanePort} (h : p.tx.length ≤ 16) (t : OutTelegram) : (p.offer t).tx.length ≤ 16 := by
  unfold LanePort.offer
  split
  · rename_i m hm
    simpa [replacedIn_length hm] using h
  · split
    · simp; omega
    · exact h

/-- A telegram offered touches the transmit queue and the drop count alone. -/
theorem offer_rest (p : LanePort) (t : OutTelegram) :
    p.offer t = { p with tx := (p.offer t).tx, counts := (p.offer t).counts }
      ∧ ((p.offer t).counts = p.counts ∨ (p.offer t).counts = p.counts.bumpDrops) := by
  unfold LanePort.offer
  split
  · exact ⟨rfl, .inl rfl⟩
  · split
    · exact ⟨rfl, .inl rfl⟩
    · exact ⟨rfl, .inr rfl⟩

/-! ## Receive queues (R147) -/

/-- A telegram is taken exactly when it stands at the head of the lane's receive queue. -/
theorem takeRx_eq_some {s t : State} {l : LaneId} {e : RxEntry} :
    s.takeRx l e = some t ↔ s.lanes[l].rx.head? = some e ∧ t = s.popRx l := by
  unfold State.takeRx State.popRx State.onLane
  split
  · rename_i x rest h
    have e1 : updateAt s.lanes l (fun p => { p with rx := p.rx.tail })
        = updateAt s.lanes l (fun p => { p with rx := rest }) := by
      simp only [updateAt, h, List.tail_cons]
    rw [e1, h]
    split
    · rename_i hx; subst hx; simp [eq_comm]
    · rename_i hx; simp [hx]
  · rename_i h
    have h' : s.lanes[l].rx.head? = none := by rw [h]; rfl
    simp only [h', reduceCtorEq, false_and]

/-! ## Admission queues (R38 to R40) -/

theorem normalTail_le (q : List QueueEntry) : normalTail q ≤ q.length := by
  unfold normalTail
  exact (List.takeWhile_sublist _).length_le.trans (by simp)

/-- Placing an entry makes the queue one longer (R39). -/
theorem placeEntry_length (q : List QueueEntry) (e : QueueEntry) : (placeEntry q e).length = q.length + 1 := by
  have := normalTail_le q
  unfold placeEntry
  split
  · rfl
  · simp; omega
  · simp

/-- The trucks of a queue after an entry is placed: those before it and the new one (R39). -/
theorem mem_placeEntry {q : List QueueEntry} {e x : QueueEntry} : x ∈ placeEntry q e ↔ x = e ∨ x ∈ q := by
  unfold placeEntry
  split
  · simp
  · have h : x ∈ q ↔ x ∈ q.take (q.length - normalTail q) ∨ x ∈ q.drop (q.length - normalTail q) := by
      conv_lhs => rw [← List.take_append_drop (q.length - normalTail q) q]
      exact List.mem_append
    simp only [List.mem_append, List.mem_singleton, h]
    tauto
  · simp [or_comm]

/-- An arrival never makes a queue longer than 8, and the displaced entry stood in it (R40). -/
theorem arrival_spec {q q' : List QueueEntry} {e : QueueEntry} {d : Option QueueEntry} (hq : q.length ≤ 8)
    (h : arrival q e = some (q', d)) : q'.length ≤ 8 ∧ ∀ x, d = some x → x ∈ q := by
  unfold arrival at h
  split at h
  · cases h
    exact ⟨by rw [placeEntry_length]; omega, by simp⟩
  · split at h
    · cases h
      refine ⟨by rw [placeEntry_length]; simp; omega, fun x hx => List.mem_of_getLast? hx⟩
    · cases h

/-! ## Positions (R41) -/

/-- A queue whose entries are told their positions has nothing to report. -/
@[simp] theorem staleFrom_toldFrom (n : Nat) (q : List QueueEntry) : staleFrom n (toldFrom n q) = [] := by
  induction q generalizing n with
  | nil => rfl
  | cons e q ih => simp [toldFrom, staleFrom, ih]

/-- Telling positions to a queue that has been told them changes nothing. -/
theorem toldFrom_of_told {n : Nat} {q : List QueueEntry} (h : staleFrom n q = []) : toldFrom n q = q := by
  induction q generalizing n with
  | nil => rfl
  | cons e q ih =>
    simp only [staleFrom] at h
    split at h
    · rename_i he
      simp only [toldFrom, ih h, ← he]
    · cases h

@[simp] theorem toldFrom_trucks (n : Nat) (q : List QueueEntry) :
    (toldFrom n q).map (fun e => e.truck) = q.map fun e => e.truck := by
  induction q generalizing n with
  | nil => rfl
  | cons e q ih => simp [toldFrom, ih]

@[simp] theorem toldFrom_length (n : Nat) (q : List QueueEntry) : (toldFrom n q).length = q.length := by
  induction q generalizing n with
  | nil => rfl
  | cons e q ih => simp [toldFrom, ih]

/-- Reporting the positions of a queue tells every entry of it and changes only that queue and the lanes. -/
theorem reportPositions_spec (s : State) (k : SectionId) :
    ∃ lanes, s.reportPositions k = { s with lanes := lanes, queues := updateAt s.queues k (toldFrom 1) } := by
  unfold State.reportPositions
  have h := foldl_sameButLanes s (fun s (p : TruckId × Nat) => s.sendTruck (queuedTelegram k p.1 p.2 false))
    (fun s p => sendTruck_lanesOnly s _) (staleFrom 1 s.queues[k])
  unfold State.sameButLanes at h
  rw [h]
  exact ⟨_, rfl⟩

theorem reportPositions_of_told {s : State} {k : SectionId} (h : staleFrom 1 s.queues[k] = []) :
    s.reportPositions k = s := by
  unfold State.reportPositions State.onQueue
  rw [h]
  simp only [List.foldl_nil]
  rw [updateAt_eq_self _ _ _ (toldFrom_of_told h)]

/-- At the end of an event every queue has been told its positions; beside the queues' reported positions only the lanes
change (R41). -/
theorem reportAllPositions_spec (s : State) :
    ∃ lanes, s.reportAllPositions = { s with lanes := lanes, queues := s.queues.map (toldFrom 1) } := by
  have step : ∀ (ks : List SectionId) (s : State), ks.Nodup →
      ∃ lanes queues, ks.foldl (fun s k => s.reportPositions k) s = { s with lanes := lanes, queues := queues }
        ∧ ∀ j : SectionId, queues[j] = if j ∈ ks then toldFrom 1 s.queues[j] else s.queues[j] := by
    intro ks
    induction ks with
    | nil => intro s _; exact ⟨s.lanes, s.queues, rfl, by simp⟩
    | cons k ks ih =>
      intro s hn
      obtain ⟨lanes, h⟩ := reportPositions_spec s k
      obtain ⟨hk, hn⟩ := List.nodup_cons.mp hn
      obtain ⟨lanes', queues', h', g⟩ := ih (s.reportPositions k) hn
      refine ⟨lanes', queues', ?_, ?_⟩
      · rw [List.foldl_cons, h', h]
      · intro j
        rw [g j, h]
        simp only [updateAt_get, List.mem_cons]
        by_cases hj : j = k
        · subst hj; simp [hk]
        · simp [hj]
  obtain ⟨lanes, queues, h, g⟩ := step allSections s (by decide)
  refine ⟨lanes, ?_⟩
  have e : queues = s.queues.map (toldFrom 1) := by
    apply Vector.ext
    intro i hi
    have := g ⟨i, hi⟩
    simp only [mem_allSections, if_true, Fin.getElem_fin] at this
    simp [this]
  rw [← e]
  exact h

theorem reportAllPositions_of_told {s : State} (h : s.positionsTold) : s.reportAllPositions = s := by
  have step : ∀ ks : List SectionId, ks.foldl (fun s k => s.reportPositions k) s = s := by
    intro ks
    induction ks with
    | nil => rfl
    | cons k ks ih => rw [List.foldl_cons, reportPositions_of_told (h k)]; exact ih
  exact step _

/-! ## The end of an event (R41, R167) -/

theorem newlySet_of_events {before s : State} (h : s.events = before.events) : newlySet before s = [] := by
  unfold newlySet
  rw [h]
  simp

/-- No EVENT is sent at the end of an event in which no record went from clear to set (R167). -/
theorem flushEvents_of_none {before s : State} (h : newlySet before s = []) : State.flushEvents before s = s := by
  unfold State.flushEvents
  rw [h]
  rfl

/-- The end of an event tells every queue its positions; beside the queues' reported positions only the lanes change. -/
theorem finish_spec (before s : State) :
    ∃ lanes, State.finish before s = { s with lanes := lanes, queues := s.queues.map (toldFrom 1) } := by
  obtain ⟨lanes, h⟩ := reportAllPositions_spec s
  refine ⟨(State.finish before s).lanes, ?_⟩
  have g := flushEvents_lanesOnly s.reportAllPositions before
  unfold State.sameButLanes at g
  unfold State.finish
  rw [g, h]

/-- The end of an event that raised nothing new and left every queue told is no change at all. -/
theorem finish_eq_self {before s : State} (ht : s.positionsTold) (he : newlySet before s = []) :
    State.finish before s = s := by
  unfold State.finish
  rw [reportAllPositions_of_told ht, flushEvents_of_none he]

section

variable (before s : State)

@[simp] theorem State.finish_now : (State.finish before s).now = s.now := by
  obtain ⟨l, h⟩ := finish_spec before s; rw [h]
@[simp] theorem State.finish_settings : (State.finish before s).settings = s.settings := by
  obtain ⟨l, h⟩ := finish_spec before s; rw [h]
@[simp] theorem State.finish_degraded : (State.finish before s).degraded = s.degraded := by
  obtain ⟨l, h⟩ := finish_spec before s; rw [h]
@[simp] theorem State.finish_roster : (State.finish before s).roster = s.roster := by
  obtain ⟨l, h⟩ := finish_spec before s; rw [h]
@[simp] theorem State.finish_queues : (State.finish before s).queues = s.queues.map (toldFrom 1) := by
  obtain ⟨l, h⟩ := finish_spec before s; rw [h]
@[simp] theorem State.finish_sections : (State.finish before s).sections = s.sections := by
  obtain ⟨l, h⟩ := finish_spec before s; rw [h]
@[simp] theorem State.finish_feeders : (State.finish before s).feeders = s.feeders := by
  obtain ⟨l, h⟩ := finish_spec before s; rw [h]
@[simp] theorem State.finish_holdTimer : (State.finish before s).holdTimer = s.holdTimer := by
  obtain ⟨l, h⟩ := finish_spec before s; rw [h]
@[simp] theorem State.finish_breaks : (State.finish before s).breaks = s.breaks := by
  obtain ⟨l, h⟩ := finish_spec before s; rw [h]
@[simp] theorem State.finish_events : (State.finish before s).events = s.events := by
  obtain ⟨l, h⟩ := finish_spec before s; rw [h]
@[simp] theorem State.finish_windowTimer : (State.finish before s).windowTimer = s.windowTimer := by
  obtain ⟨l, h⟩ := finish_spec before s; rw [h]
@[simp] theorem State.finish_storeJob : (State.finish before s).storeJob = s.storeJob := by
  obtain ⟨l, h⟩ := finish_spec before s; rw [h]
@[simp] theorem State.finish_storeCell : (State.finish before s).storeCell = s.storeCell := by
  obtain ⟨l, h⟩ := finish_spec before s; rw [h]
@[simp] theorem State.finish_lock : (State.finish before s).lock = s.lock := by
  obtain ⟨l, h⟩ := finish_spec before s; rw [h]

end

/-- Sending on lanes alone leaves every queue as told as it was. -/
theorem positionsTold_of_queues {s t : State} (h : t.queues = s.queues) (g : s.positionsTold) : t.positionsTold := by
  intro k; rw [h]; exact g k

/-! ## Figures -/

theorem quantumDown_le (v : Nat) : quantumDown v ≤ v := Nat.div_mul_le_self v 25

theorem quantumDown_mod (v : Nat) : quantumDown v % 25 = 0 := Nat.mul_mod_left _ _

/-- A demand rounded up lies on the quantum, at or less than 25 A above itself (R30). -/
theorem quantumUp_spec (v : Nat) : quantumUp v % 25 = 0 ∧ v ≤ quantumUp v ∧ quantumUp v < v + 25 := by
  unfold quantumUp
  omega

theorem clampTo_spec {low high : Nat} (h : low ≤ high) (v : Nat) :
    low ≤ clampTo low high v ∧ clampTo low high v ≤ high := by
  unfold clampTo
  omega

/-- An ampere setting lies in its range, if the range begins on the quantum, and on the quantum (R2, R22). -/
theorem ampsSetting_spec {low high : Nat} (h : low ≤ high) (hl : low % 25 = 0) (v : Nat) :
    ampsIn low high (ampsSetting low high v) := by
  obtain ⟨a, b⟩ := clampTo_spec h v
  refine ⟨?_, (quantumDown_le _).trans b, quantumDown_mod _⟩
  unfold ampsSetting quantumDown
  omega

/-- The effective capacity a report gives is at most the rating and lies on the quantum (R124). -/
theorem effectiveCapacity_spec (c : SectionSettings) (f : FeederFigures) :
    effectiveCapacity c f ≤ c.rating ∧ effectiveCapacity c f ≤ f.capacity ∧ effectiveCapacity c f % 25 = 0 := by
  unfold effectiveCapacity
  split
  · simp only
    split
    · exact ⟨(quantumDown_le _).trans (min_le_right _ _), (quantumDown_le _).trans (min_le_left _ _), quantumDown_mod _⟩
    · split
      · simp
      · rename_i hk hc
        have key : min f.capacity c.rating * (f.volts - c.cut) / (c.knee - c.cut) ≤ min f.capacity c.rating := by
          apply Nat.div_le_of_le_mul
          rw [Nat.mul_comm]
          exact Nat.mul_le_mul_right _ (by omega)
        have h := (quantumDown_le _).trans key
        exact ⟨h.trans (min_le_right _ _), h.trans (min_le_left _ _), quantumDown_mod _⟩
  · simp

/-- The applied demand lies between the class floor and its ceiling, or its boost ceiling while the boost is ACTIVE (R30). -/
theorem appliedDemand_spec {c : ClassRecord} (h : c.inRange) (boost : Boost) (requested : Amps) :
    c.floor ≤ appliedDemand c boost requested
      ∧ appliedDemand c boost requested ≤ if boost.isActive then c.boostCeiling else c.ceiling := by
  obtain ⟨-, -, ⟨h2, h3, -⟩, -⟩ := h
  unfold appliedDemand
  split <;> exact clampTo_spec (by omega) _

/-- A ramp step never raises an issued grant above the target (R86). -/
theorem step_le_target {issued target : Amps} (h : issued ≤ target) (profile : Nat) :
    issued + min (stepSize profile (target - issued)) (target - issued) ≤ target := by
  have := min_le_right (stepSize profile (target - issued)) (target - issued)
  unfold Amps at *
  omega

/-! ## Line rates (R143) -/

/-- Carrying out line-rate changes touches nothing of a port but its rate, the changes that wait and its partial frame. -/
theorem settleChanges_frame (cs : List RateChange) (p : LanePort) :
    settleChanges cs p =
      { p with
        rate := (settleChanges cs p).rate
        rateChanges := (settleChanges cs p).rateChanges
        partialFrame := (settleChanges cs p).partialFrame } := by
  induction cs generalizing p with
  | nil => rfl
  | cons c rest ih =>
    unfold settleChanges
    split
    · rw [ih]
    · rfl

@[simp] theorem settleRate_state (p : LanePort) : p.settleRate.state = p.state := by
  rw [LanePort.settleRate, settleChanges_frame]
@[simp] theorem settleRate_silenceStart (p : LanePort) : p.settleRate.silenceStart = p.silenceStart := by
  rw [LanePort.settleRate, settleChanges_frame]
@[simp] theorem settleRate_lastOctet (p : LanePort) : p.settleRate.lastOctet = p.lastOctet := by
  rw [LanePort.settleRate, settleChanges_frame]
@[simp] theorem settleRate_rx (p : LanePort) : p.settleRate.rx = p.rx := by
  rw [LanePort.settleRate, settleChanges_frame]
@[simp] theorem settleRate_tx (p : LanePort) : p.settleRate.tx = p.tx := by
  rw [LanePort.settleRate, settleChanges_frame]
@[simp] theorem settleRate_sending (p : LanePort) : p.settleRate.sending = p.sending := by
  rw [LanePort.settleRate, settleChanges_frame]
@[simp] theorem settleRate_counts (p : LanePort) : p.settleRate.counts = p.counts := by
  rw [LanePort.settleRate, settleChanges_frame]
@[simp] theorem settleRate_resyncRepeated (p : LanePort) : p.settleRate.resyncRepeated = p.resyncRepeated := by
  rw [LanePort.settleRate, settleChanges_frame]

/-- A port all of whose line-rate changes wait for a transmission stays as it is (R143). -/
theorem settleRate_waiting {p : LanePort} (h : ∀ c ∈ p.rateChanges, 0 < c.transmissionsLeft) : p.settleRate = p := by
  cases p with
  | mk _ _ _ _ _ _ _ _ rateChanges _ _ =>
    cases rateChanges with
    | nil => rfl
    | cons c rest =>
      have := h c (List.mem_cons_self ..)
      simp only [LanePort.settleRate, settleChanges]
      rw [if_neg (by omega)]

/-- A HELD section keeps no floor back (R10). -/
theorem keptBack_held {s : State} {k : SectionId} (h : s.settings.sections[k].mode = .held) : s.keptBack k = 0 :=
  if_pos h

/-- A section with no SUSPENDED holder keeps no floor back (R57, R74). -/
theorem keptBack_none {s : State} {k : SectionId} (h : s.hasSuspended k = false) : s.keptBack k = 0 := by
  have hf : (s.sections[k].holders.filter fun x => s.isSuspended x.truck) = [] := by
    simpa [State.hasSuspended] using h
  unfold State.keptBack State.suspendedFloors
  rw [hf]
  split <;> rfl

/-- A flagged demand leaves a boost ACTIVE only where the truck may boost (R8, R32). -/
theorem boostAfterDemand_inactive {c : ClassRecord} {now : Time} {may flag : Bool} (h : (flag && may) = false)
    (b : Boost) : (boostAfterDemand c now may flag b).isActive = false := by
  cases b with
  | active ends =>
    rw [boostAfterDemand, if_neg (by simp [h]), boostAfterEnd]
    split <;> rfl
  | none =>
    rw [boostAfterDemand, if_neg (by simp [h])]
    rfl
  | cooldown ends => rfl

/-- A SET is answered ACCEPTED exactly when the value taken is the value written (R160). -/
theorem setCode_accepted {taken : ReplyValue} {v : Nat} : setCode taken v = .accepted ↔ taken = .word v := by
  simp [setCode, ReplyValue.isWord]

/-- A SET that passes its checks is answered ACCEPTED or CLAMPED (R160). -/
theorem setCode_cases {taken : ReplyValue} {v : Nat} : setCode taken v = .accepted ∨ setCode taken v = .clamped := by
  unfold setCode; split <;> simp

/-- An occurrence leaves an event record in its bounds (R166). -/
theorem occur_inBounds (r : EventRecord) (x : Subject) : (r.occur x).inBounds := by
  constructor
  · simp only [EventRecord.occur]; omega
  · simp only [EventRecord.occur, true_iff]; omega

end Sys2Proof.Machine
end

