-- ==== Sys2Proof/Tests/Slice0.lean ====
section
/-! SUPPORT. Tests of the model: an ill-formed term for each check of WellFormed, the worked cases of the manual, and one small
step for each command, its expected result taken from the rule named beside it. -/

namespace Sys2Proof.Tests

set_option Elab.async false

open Sys2Proof.Machine

/-! ## Helpers -/

/-- The state a command leaves. -/
def after (c : Instr) (s : State) : State :=
  match exec c s with
  | .next t => t
  | _ => s

/-- A part some while after its reset: every lane heard at 9,000 and LIVE, nothing waiting to be sent, the windows closed, the
gap inputs low and read. -/
def calm : State :=
  { State.reset with
    now := 10000
    lanes := Vector.replicate 4 { LanePort.fresh 9000 115200 with state := .live }
    resyncOpened := none
    refreshStart := 9500
    breaks := Vector.replicate 6 { BreakRecord.empty with reference := some false } }

def id8 (n : Nat) : Octet := BitVec.ofNat 8 n

/-- A truck heard at 9,000 that has asked for `amps`. -/
def truck (n : Nat) (cls : ClassId) (state : TruckState) (sec : Option SectionId) (amps : Amps) : Truck :=
  { Truck.fresh (id8 n) cls amps with state := state, sec := sec, lastHeard := some 9000 }

def holder (n : Nat) (issued target : Amps) : Holder :=
  { truck := id8 n, issued := issued, target := target, entry := .absent }

def entry (n : Nat) (kind : CrossingKind) (state : CrossingState) (gap : Amps) : ApproachEntry :=
  { truck := id8 n, kind := kind, state := state, gapGrant := gap, approachTime := 9500 }

def queued (n : Nat) (position : Nat) : QueueEntry := { truck := id8 n, rank := .normal, reported := some position }

def withRoster (trucks : List Truck) (s : State) : State := { s with roster := trucks }

/-- A section LIVE with an available capacity under the default margin, and these holders. -/
def live (k : SectionId) (a : Amps) (hs : List Holder) (s : State) : State :=
  (s.onFeeder k fun f =>
    { f with age := .fresh, effective := a + 250,
             lastReport := some { breaker := .closed, capacity := a + 250, current := 0, volts := 2500 } }).onSection k
    fun r => { r with state := .live, available := a, holders := hs }

def atBreak (b : BreakId) (es : List ApproachEntry) (s : State) : State := s.onBreak b fun r => { r with approaches := es }

/-- A telegram waiting at the head of a lane's receive queue. -/
def arrived (l : LaneId) (src : Octet) (m : Inbound) (s : State) : State :=
  s.onLane l fun p => { p with rx := [{ src := src, telegram := m }] }

/-- An open configuration window. -/
def opened (s : State) : State := { s with windowTimer := some 9900 }

/-- A line octet without a framing error. -/
def clean (n : Nat) : LineOctet := { value := id8 n, framingError := false }

/-! ## WellFormed (Syntax): a term for each check, which the check refuses -/

theorem wellFormed_refuses_gap_input :
    (Instr.gapInputEdge 0 true).wellFormed = false ∧ (Instr.gapInputEdge 7 true).wellFormed = false := by decide

theorem wellFormed_refuses_frame_length :
    (Instr.frame 1 []).wellFormed = false ∧ (Instr.frame 1 (List.replicate 209 (clean 0))).wellFormed = false := by
  decide +kernel

theorem wellFormed_refuses_truck_telegrams :
    (Instr.truckAdmit 1 0 1 500 0).wellFormed = false ∧ (Instr.truckDemand 1 240 500 0).wellFormed = false
      ∧ (Instr.truckApproach 1 0xF1 2).wellFormed = false ∧ (Instr.truckPassed 1 0 2).wellFormed = false
      ∧ (Instr.truckLowered 1 0xFE).wellFormed = false := by decide

theorem wellFormed_refuses_truck_timers :
    (Instr.pairingWindowEnd 0).wellFormed = false ∧ (Instr.demandIntervalEnd 240).wellFormed = false
      ∧ (Instr.boostExpiry 0).wellFormed = false ∧ (Instr.cooldownEnd 0xFF).wellFormed = false
      ∧ (Instr.silenceLimitExpiry 0).wellFormed = false ∧ (Instr.abandonment 0xF0).wellFormed = false := by decide

theorem wellFormed_refuses_crossing_timers :
    (Instr.clearance 0 0).wellFormed = false ∧ (Instr.gapTimeout 0 240).wellFormed = false := by decide

theorem wellFormed_accepts_bounds :
    (Instr.truckLowered 1 1).wellFormed = true ∧ (Instr.truckLowered 1 239).wellFormed = true
      ∧ (Instr.gapInputEdge 6 true).wellFormed = true := by decide

/-! ## The worked cases of the manual -/

/-- The CRC of R145 over the nine octets 0x31 to 0x39; the published check value of a CRC-16 with this polynomial, initial
value and bit order (PRESUMED: the value is not in the manual). -/
theorem test_check : check [0x31, 0x32, 0x33, 0x34, 0x35, 0x36, 0x37, 0x38, 0x39] = 0x29B1#16 := by decide +kernel

/-- The sagging feeder of chapter 7: 5,200 A at 2,380 V gives 4,275 A; at 2,450 V 5,200 A; at 2,250 V 2,600 A; at 2,050 V 0. -/
theorem test_sagging_feeder :
    [2380, 2450, 2250, 2050].map (fun v => effectiveCapacity SectionSettings.default
      { breaker := .closed, capacity := 5200, current := 4050, volts := v }) = [4275, 5200, 2600, 0] := by decide

def autoCase : State :=
  live 2 4900 [holder 7 600 0, holder 12 400 0, holder 3 600 0]
    (atBreak 1 [entry 9 (.handover 800) .approaching 50]
      (withRoster [truck 7 1 .holder (some 2) 1950, truck 12 2 .holder (some 2) 1600, truck 3 1 .holder (some 2) 700,
        truck 9 0 .approaching (some 1) 1600] calm))

/-- The worked AUTO pass of chapter 4: targets 1,950, 1,450 and 700 A, spare 0. -/
theorem test_auto_pass :
    ((after (.allocationPass 2) autoCase).sections[(2 : SectionId)].holders.map fun h => h.target) = [1950, 1450, 700]
      ∧ (after (.allocationPass 2) autoCase).sections[(2 : SectionId)].spare = 0 := by decide +kernel

def walkCase : State :=
  live 0 2025 [holder 21 300 300, holder 22 400 400, holder 23 300 300]
    (withRoster [truck 21 3 .holder (some 0) 1200, truck 22 0 .holder (some 0) 1600, truck 23 3 .holder (some 0) 400] calm)

/-- The worked single-quantum walk of chapter 4: 625, 1,000 and 400 A. -/
theorem test_walk :
    ((after (.allocationPass 0) walkCase).sections[(0 : SectionId)].holders.map fun h => h.target) = [625, 1000, 400] := by
  decide +kernel

def fixedCase : State :=
  (live 3 3500 [holder 7 600 600, holder 12 400 400, holder 3 600 600]
    (withRoster [truck 7 1 .holder (some 3) 1950, truck 12 2 .holder (some 3) 1600, truck 3 1 .holder (some 3) 700]
      calm)).onSectionSettings 3 fun c => { c with mode := .fixed }

/-- The worked FIXED pass of chapter 4: 1,200, 1,000 and 1,200 A, spare 100 A. -/
theorem test_fixed_pass :
    ((after (.allocationPass 3) fixedCase).sections[(3 : SectionId)].holders.map fun h => h.target) = [1200, 1000, 1200]
      ∧ (after (.allocationPass 3) fixedCase).sections[(3 : SectionId)].spare = 100 := by decide +kernel

def deficitCase : State :=
  live 3 1250 [holder 5 50 50, holder 7 1500 1500, holder 12 800 800, holder 3 700 700]
    (atBreak 2 [entry 9 (.handover 500) .approaching 50]
      (atBreak 3 [entry 5 .exit .approaching 50]
        (withRoster [truck 5 0 .approaching (some 3) 800, truck 7 1 .holder (some 3) 1950,
          truck 12 2 .holder (some 3) 1600, truck 3 1 .holder (some 3) 700, truck 9 0 .approaching (some 2) 1600] calm)))

/-- The worked deficit of chapter 4: T05 0, T07 750, T12 500 A; T03 stands in the queue with SHED rank; T09's entry is EXIT. -/
theorem test_deficit :
    ((after (.allocationPass 3) deficitCase).sections[(3 : SectionId)].holders.map fun h => (h.truck, h.issued))
        = [(5, 0), (7, 750), (12, 500)]
      ∧ ((after (.allocationPass 3) deficitCase).queues[(3 : SectionId)].map fun e => (e.truck, e.rank)) = [(3, .shed)]
      ∧ ((after (.allocationPass 3) deficitCase).breaks[(2 : BreakId)].approaches.map fun e => e.kind) = [.exit] := by
  decide +kernel

def tel (n : Nat) (p : Payload) : OutTelegram := { dest := id8 n, urgent := false, answer := false, payload := p }

/-- The transmit queue under a burst, chapter 8. -/
theorem test_burst :
    let lower : OutTelegram := { tel 12 (.lower .shed none) with urgent := true }
    (([lower, tel 7 (.grant 1 1000 1000 false), tel 12 (.queued 1 1), tel 31 (.queued 1 4)].foldl LanePort.offer
        { LanePort.fresh 0 115200 with
          tx := [tel 7 (.grant 1 1200 1450 false), tel 31 (.queued 1 3), tel 12 (.grant 1 800 800 false)] }).tx)
      = [tel 7 (.grant 1 1000 1000 false), tel 31 (.queued 1 4), tel 12 (.grant 1 800 800 false), lower,
         tel 12 (.queued 1 1)] := by decide +kernel

def sizingCase : State :=
  live 2 3000 [holder 1 400 400, holder 2 600 600]
    (live 1 4000 [holder 14 1450 1450]
      (atBreak 1 [entry 9 (.handover 900) .approaching 50]
        (withRoster [truck 1 0 .holder (some 2) 400, truck 2 1 .holder (some 2) 600, truck 9 0 .approaching (some 1) 900,
          truck 14 1 .holder (some 1) 1450] calm)))

/-- Sizing a reservation, chapter 6: 1,100 A. -/
theorem test_sizing : sizingCase.entryKind 1 14 1450 = .handover 1100 := by decide +kernel

/-! ## One small step for each command -/

/-- R163, R165: MAINT high clears the lock cell; a store that fails its check raises STORE_INVALID. -/
theorem test_powerOn :
    (after (.powerOn true) { calm with lock := true }).lock = false
      ∧ (after (.powerOn true) calm).events[EventKind.storeInvalid.code].flag = true := by decide +kernel

def storing : State :=
  { calm with
    storeCell := .holding { settings := Settings.default, roster := [] }
    storeJob := some { image := { settings := Settings.default, roster := [{ truck := 7, cls := 1 }] }
                       started := 9900, duration := 300 } }

/-- R162: a power loss or a RESET during a store leaves the settings store failing its check. -/
theorem test_powerLoss : (after .powerLoss storing).storeCell = .failing ∧ (after .powerLoss storing).running = false := by
  decide +kernel

theorem test_resetAssert :
    (after .resetAssert storing).storeCell = .failing ∧ (after .resetAssert storing).running = false := by decide +kernel

def inReset : State := { calm with pins := { calm.pins with resetLow := true } }

/-- R37, R165: the release of RESET starts the part afresh. -/
theorem test_resetRelease :
    (after (.resetRelease false) inReset).running = true
      ∧ (after (.resetRelease false) (withRoster [truck 7 1 .idle none 600] inReset)).roster = [] := by decide +kernel

/-- R14, R102: a rising edge at B3 with nothing expected there is an unclaimed passage. -/
theorem test_gapInputEdge :
    (after (.gapInputEdge 3 true) calm).breaks[(2 : BreakId)].lastEdge = some 10000
      ∧ (after (.gapInputEdge 3 true) calm).events[EventKind.unclaimedPassage.code]
        = { flag := true, count := 1, subject := .brk 2 } := by decide +kernel

/-- A LINK_BEACON of base A with status 0; its CHECK worked out by hand from R145. -/
def beaconFrame : List Octet := [0xC5, 0x80, 0xFE, 0xF8, 0x30, 0x01, 0x00, 0xC6, 0xD4]

/-- R144 to R147: a sound frame is accepted. -/
theorem test_frame :
    (after (.frame 1 (beaconFrame.map fun o => { value := o, framingError := false })) calm).lanes[(1 : LaneId)].rx
      = [{ src := 0xF8, telegram := .linkBeacon 0 }] := by decide +kernel

/-- R145: a frame whose CONTROL has its D bit flipped on the way is repaired and counted. -/
theorem test_frame_corrected :
    let p := (after (.frame 1 ((beaconFrame.set 1 0xC0).map fun o => { value := o, framingError := false })) calm).lanes[
      (1 : LaneId)]
    p.counts.corrected = 1 ∧ p.counts.accepted = 1 := by decide +kernel

def halfFrame : State := calm.onLane 1 fun p => { p with partialFrame := [0xC5, 0x80], lastOctet := 9995 }

/-- R144: 5 ms without an octet end a frame. -/
theorem test_frameTimeout :
    (after (.frameTimeout 1) halfFrame).lanes[(1 : LaneId)].counts.checkFailures = 1
      ∧ (after (.frameTimeout 1) halfFrame).lanes[(1 : LaneId)].partialFrame = [] := by decide +kernel

def toSend : State := calm.onLane 1 fun p => { p with tx := [tel 7 (.queued 1 1)] }

/-- R149: the frame of QUEUED(S1, 1) to T07 starts on the line. -/
theorem test_transmitStart :
    ((after (.transmitStart 1) toSend).lanes[(1 : LaneId)].sending.map fun t => t.octets.take 8)
      = some [0xC5, 0xCD, 0x07, 0xFE, 0x21, 0x02, 0x01, 0x01] := by decide +kernel

/-- Two line-rate changes wait on a lane: the first for the transmission on its line, the second for one more. -/
def twoRates : List RateChange :=
  [{ rate := 19200, transmissionsLeft := 0 + 1 }, { rate := 38400, transmissionsLeft := 2 }]

def sendingCase (changes : List RateChange) : State :=
  calm.onLane 1 fun p => { p with sending := some { octets := [], started := 9990 }, rateChanges := changes }

/-- R143: a rate change that waited for the transmission is in force when it ends; the one behind it waits on. -/
theorem test_transmitEnd :
    (after (.transmitEnd 1) (sendingCase twoRates)).lanes[(1 : LaneId)].rate = 19200
      ∧ (after (.transmitEnd 1) (sendingCase twoRates)).lanes[(1 : LaneId)].rateChanges
        = [{ rate := 38400, transmissionsLeft := 1 }] := by decide +kernel

/-- R146: a LINK_BEACON is taken and discarded. -/
theorem test_linkBeacon : after (.linkBeacon 1 0) (arrived 1 0xF8 (.linkBeacon 0) calm) = calm := by decide +kernel

def admitCase : State := arrived 1 5 (.truckAdmit 1 1930 1) (withRoster [truck 5 0 .idle none 400] calm)

/-- R42, R52: outside the resync window the raised flag is ignored; the truck waits at the head, and its demand is applied. -/
theorem test_truckAdmit :
    (after (.truckAdmit 1 5 1 1930 1) admitCase).queues[(1 : SectionId)]
        = [{ truck := 5, rank := .normal, reported := some 1 }]
      ∧ ((after (.truckAdmit 1 5 1 1930 1) admitCase).truck? 5).map (fun r => (r.state, r.requested, r.applied))
        = some (.queued, 1950, 1600) := by decide +kernel

/-- T07, the older holder of S1, at its target; T12 has room to rise. -/
def repeatCase : State :=
  arrived 1 7 (.truckAdmit 1 600 0) (live 1 4000 [holder 7 600 600, holder 12 400 400]
    (withRoster [truck 7 1 .holder (some 1) 600, truck 12 2 .holder (some 1) 1000] calm))

/-- R29, R91: the GRANT that answers T07's ADMIT naming its own section stands before that of T12, in holder-list order. -/
theorem test_truckAdmit_repeat :
    ((after (.truckAdmit 1 7 1 600 0) repeatCase).lanes[(1 : LaneId)].tx)
      = [tel 7 (.grant 1 600 600 false), tel 12 (.grant 1 400 1000 false)] := by decide +kernel

/-- A demand applied at 9,000, so that the interval of 250 ms is over. -/
def demandCase : State :=
  arrived 1 12 (.truckDemand 1480 0) (live 1 4000 [holder 12 400 400]
    (withRoster [{ truck 12 2 .holder (some 1) 1000 with lastApplication := some 9000 }] calm))

/-- R30: 1,480 A is applied as 1,500 A, and its pass gives the truck a target of 1,500 A. -/
theorem test_truckDemand :
    ((after (.truckDemand 1 12 1480 0) demandCase).truck? 12).map (fun r => (r.requested, r.applied)) = some (1500, 1500)
      ∧ ((after (.truckDemand 1 12 1480 0) demandCase).sections[(1 : SectionId)].holders.map fun h => h.target)
        = [1500] := by decide +kernel

/-- The same truck with a demand applied 80 ms before. -/
def earlyDemandCase : State :=
  demandCase.onTruck 12 fun r => { r with lastApplication := some 9920 }

/-- R31: a DEMAND within the interval waits. -/
theorem test_truckDemand_waits :
    ((after (.truckDemand 1 12 1480 0) earlyDemandCase).truck? 12).map (fun r => (r.requested, r.waiting))
      = some (1000, some { amps := 1500, boost := false }) := by decide +kernel

/-- R97, R98: T14 approaches B2 and is given a reservation of 1,100 A and a gap grant of 50 A. -/
def approachCase : State := arrived 1 14 (.truckApproach 2) sizingCase

theorem test_truckApproach :
    ((after (.truckApproach 1 14 2) approachCase).breaks[(1 : BreakId)].approaches.map fun e => (e.truck, e.kind, e.gapGrant))
        = [(9, .handover 900, 50), (14, .handover 1100, 50)]
      ∧ (after (.truckApproach 1 14 2) approachCase).sections[(2 : SectionId)].passPending = true := by decide +kernel

/-- T14 with no more issued than the gap current, and its target at its floor of 25 A. -/
def smallApproachCase : State :=
  arrived 1 14 (.truckApproach 2)
    (live 1 4000 [holder 14 25 25]
      (({ calm with settings := { calm.settings with
            classes := updateAt calm.settings.classes 1 fun c => { c with floor := 25 } } }).onSection 0 id |>
        withRoster [truck 14 1 .holder (some 1) 25]))

/-- R97: the APPROACH is answered with a GRANT even where the issued grant and the target stay as they were. -/
theorem test_truckApproach_grant :
    ((after (.truckApproach 1 14 2) smallApproachCase).lanes[(1 : LaneId)].tx.map fun x => x.payload)
      = [.grant 1 25 25 false] := by decide +kernel

/-- T09 CLEARED at B2 with a reservation of 800 A, in the AUTO case of chapter 4. -/
def passedCase : State :=
  arrived 1 9 (.truckPassed 2)
    (live 1 4000 [holder 9 50 50]
      ((atBreak 1 [entry 9 (.handover 800) (.cleared 9800) 50] autoCase).onTruck 9 fun r => { r with state := .cleared }))

/-- R106, and the crossing case of chapter 4: T09 enters S2 with its floor and a target of 800 A; no other target moves. -/
theorem test_truckPassed :
    ((after (.truckPassed 1 9 2) passedCase).sections[(2 : SectionId)].holders.map fun h => h.target) = [1950, 1450, 700, 800]
      ∧ (after (.truckPassed 1 9 2) passedCase).sections[(1 : SectionId)].holders = [] := by decide +kernel

def lowered21 : State := arrived 1 21 .truckLowered walkCase

/-- R28: a LOWERED releases the truck, and the others share its room. -/
theorem test_truckLowered :
    ((after (.truckLowered 1 21) lowered21).truck? 21).map (fun r => (r.state, r.sec)) = some (.idle, none)
      ∧ ((after (.truckLowered 1 21) lowered21).sections[(0 : SectionId)].holders.map fun h => (h.truck, h.target))
        = [(22, 1600), (23, 400)] := by decide +kernel

/-- A CLOSED report for S1 in UNREPORTED. -/
def reportCase (b : BreakerState) (s : State) : State := arrived 0 0xF1 (.feederReport 1 b 5200 4050 2380) s

/-- R124, R127: S1 is LIVE with an effective capacity of 4,275 A and A of 4,025 A. -/
theorem test_feederReport_closed :
    let t := after (.feederReport 1 .closed 5200 4050 2380) (reportCase .closed calm)
    t.isLive 1 = true ∧ t.feeders[(1 : SectionId)].effective = 4275 ∧ t.sections[(1 : SectionId)].available = 4025 := by
  decide +kernel

def tripCase : State := reportCase .tripped (live 1 4000 [holder 12 400 400]
  (withRoster [truck 12 2 .holder (some 1) 1000] calm))

/-- R131: a trip suspends the holder and starts the restore window of 20 s. -/
theorem test_feederReport_tripped :
    let t := after (.feederReport 1 .tripped 5200 4050 2380) tripCase
    t.isSuspended 12 = true ∧ t.feeders[(1 : SectionId)].restoreEnd = some 30000
      ∧ t.sections[(1 : SectionId)].available = 0 := by decide +kernel

def super (m : Inbound) (s : State) : State := arrived 3 0xF0 m s

/-- R158: CONFIG_CLOSE closes the window. -/
theorem test_configClose : (after .configClose (super .configClose (opened calm))).windowTimer = none := by decide +kernel

/-- R158: CONFIG_OPEN with the part's own identity opens the window, whatever that identity is. -/
theorem test_configOpen :
    (calm.configOpen Config.cabinetIdentity).windowTimer = some 10000 := by
  simp [State.configOpen, State.reply, State.sendRole, calm]
  split <;> rfl

def setCase : State := super (.setItem 0x12 0x000002 310) (opened (live 1 4950 [] calm))

/-- The example of chapter 1: a margin of 310 A is taken as 300 A, and A becomes 4,900 A. -/
theorem test_setItem :
    let t := after (.setItem 0x12 0x000002 310) setCase
    t.settings.sections[(1 : SectionId)].margin = 300 ∧ t.sections[(1 : SectionId)].available = 4900
      ∧ (t.lanes[(3 : LaneId)].tx.map fun x => x.payload) = [.reply .clamped 0x52 0x12 (some (.word 300))] := by
  decide +kernel

/-- R159: a SET with the window closed is answered NOT_OPEN. -/
theorem test_setItem_closed :
    ((after (.setItem 0x12 2 310) (super (.setItem 0x12 2 310) calm)).lanes[(3 : LaneId)].tx.map fun x => x.payload)
      = [.reply .notOpen 0x52 0x12 none] := by decide +kernel

/-- R160: GET answers with the lowest-numbered member. -/
theorem test_getItem :
    ((after (.getItem 0x11 6) (super (.getItem 0x11 6) calm)).lanes[(3 : LaneId)].tx.map fun x => x.payload)
      = [.reply .accepted 0x53 0x11 (some (.word 6000))] := by decide +kernel

/-- R11: SET_MODE needs no window. -/
theorem test_setMode :
    (after (.setMode 2 .held) (super (.setMode 2 .held) calm)).settings.sections[(1 : SectionId)].mode = .held := by
  decide +kernel

def enrolCase : State := super (.enrol 7 1) (opened calm)

/-- R19: a new record is IDLE at its class floor. -/
theorem test_enrol :
    (after (.enrol 7 1) enrolCase).roster = [Truck.fresh 7 1 600] := by decide +kernel

def unenrolCase : State := super (.unenrol 21) (opened walkCase)

/-- R20: the record and the place are gone. -/
theorem test_unenrol :
    (after (.unenrol 21) unenrolCase).truck? 21 = none
      ∧ ((after (.unenrol 21) unenrolCase).sections[(0 : SectionId)].holders.map fun h => h.truck) = [22, 23] := by
  decide +kernel

def forceCase : State := super (.forceRelease 21) walkCase

/-- R21: a released holder is IDLE and stays enrolled. -/
theorem test_forceRelease : (after (.forceRelease 21) forceCase).truckState 21 = .idle
    ∧ ((after (.forceRelease 21) forceCase).truck? 21).isSome = true := by decide +kernel

/-- R161: one TABLE_IMAGE per listed section. -/
theorem test_readTable :
    ((after (.readTable 5) (super (.readTable 5) walkCase)).lanes[(3 : LaneId)].tx.map fun x =>
        match x.payload with
        | .tableImage t => (t.sec.val, t.holders.map fun h => (h.truck, h.issued))
        | _ => (9, [])) = [(0, [(21, 300), (22, 400), (23, 300)]), (2, [])] := by decide +kernel

def raisedCase : State := super (.clearEvents 1) (calm.raise .truckSilent (.truck 7))

/-- R166: the record is copied and cleared. -/
theorem test_clearEvents :
    let t := after (.clearEvents 1) raisedCase
    t.events[EventKind.truckSilent.code] = EventRecord.clear
      ∧ t.lastCleared[EventKind.truckSilent.code] = { flag := true, count := 1, subject := .truck 7 } := by
  decide +kernel

/-- R162: STORE begins a store of the values as they stand. -/
theorem test_store :
    ((after .store (super .store (opened walkCase))).storeJob.map fun j => j.image.roster.length) = some 3 := by
  decide +kernel

/-- R162: the completed store holds its image. -/
theorem test_storeCompletion :
    (after .storeCompletion storing).storeCell.roster = [{ truck := 7, cls := 1 }] := by decide +kernel

/-- R163: COMMISSION_LOCK sets the cell. -/
theorem test_commissionLock : (after .commissionLock (super .commissionLock (opened calm))).lock = true := by decide +kernel

/-- R164: RESTART makes every truck IDLE, empties the holder lists, and answers ACCEPTED. -/
theorem test_restart :
    let t := after .restart (super .restart walkCase)
    (t.roster.map fun r => (r.id, r.state)) = [(21, .idle), (22, .idle), (23, .idle)]
      ∧ t.sections[(0 : SectionId)].holders = []
      ∧ (t.lanes[(3 : LaneId)].tx.map fun x => x.payload) = [.reply .accepted 0x5C 0 none] := by decide +kernel

/-- Lane `l` last heard 3,000 ms ago. -/
def silent (l : LaneId) (s : State) : State := s.onLane l fun p => { p with silenceStart := 7000 }

/-- R128, R148: the FEEDER lane turns QUIET, and a FRESH record becomes HELD. -/
theorem test_laneSilenceExpiry :
    let t := after (.laneSilenceExpiry 0) (silent 0 walkCase)
    t.lanes[(0 : LaneId)].state = .quiet ∧ t.feeders[(0 : SectionId)].age = .held ∧ t.holdTimer = some 10000 := by
  decide +kernel

/-- A copy of a telegram, 100 ms old, from lane `l`. -/
def recent (l : LaneId) (m : Inbound) : Option RadioCopy :=
  some { telegram := m, lane := l, arrival := 9900, window := 200 }

/-- BOTH mode in the resync window, with L1 last heard 3,000 ms ago: T05 and T06 have asked for S1 over L2, T06 with the raised
flag, and T07 over L1; S1 has no capacity to give. -/
def degradingCase : State :=
  { silent 1 (live 1 0 [] (withRoster
      [{ truck 5 0 .idle none 0 with slot := recent 2 (.truckAdmit 1 100 0) },
       { truck 6 0 .idle none 0 with slot := recent 2 (.truckAdmit 1 100 1) },
       { truck 7 0 .idle none 0 with slot := recent 1 (.truckAdmit 1 100 0) }] calm)) with
    resyncOpened := some 9500
    settings := { calm.settings with pairingMode := .both } }

/-- R41, R152, R154: T05 is told position 1 before T06 is entered ahead of it; its QUEUED is then replaced where it waits. T07's
copy counts unpaired. -/
theorem test_laneSilenceExpiry_copies :
    let t := after (.laneSilenceExpiry 1) degradingCase
    ((t.lanes[(2 : LaneId)].tx.map fun x => x.payload) = [.queued 1 2, .queued 1 1])
      ∧ (t.queues[(1 : SectionId)].map fun e => e.truck) = [6, 5] ∧ t.lanes[(1 : LaneId)].counts.unpaired = 1
      ∧ t.degraded = true ∧ t.handed = [] := by
  decide +kernel

def copy : RadioCopy := { telegram := .truckPassed 2, lane := 1, arrival := 9800, window := 200 }

def bothCase : State :=
  { withRoster [{ truck 7 1 .holder (some 1) 600 with slot := some copy }] calm with
    settings := { calm.settings with pairingMode := .both } }

/-- R153: an unpaired copy is discarded and counted on its lane. -/
theorem test_pairingWindowEnd :
    let t := after (.pairingWindowEnd 7) bothCase
    ((t.truck? 7).bind fun r => r.slot) = none ∧ t.lanes[(1 : LaneId)].counts.unpaired = 1 := by decide +kernel

def waitingCase : State :=
  live 1 4000 [holder 12 400 400]
    (withRoster [{ truck 12 2 .holder (some 1) 1000 with
      waiting := some { amps := 1500, boost := false }, lastApplication := some 9750 }] calm)

/-- R31, the hunting drive of chapter 2: the pending 1,500 A is applied 250 ms after the last application. -/
theorem test_demandIntervalEnd :
    ((after (.demandIntervalEnd 12) waitingCase).truck? 12).map (fun r => (r.requested, r.waiting, r.lastApplication))
      = some (1500, none, some 10000) := by decide +kernel

def boostCase (boost : Boost) : State :=
  live 2 4900 [holder 7 2400 2400]
    (withRoster [{ truck 7 1 .holder (some 2) 2450 with boost := boost, applied := 2400 }] calm)

/-- R33, the boost of chapter 2: at the expiry 2,450 A is held to 2,000 A and the cooldown of 120 s starts. -/
theorem test_boostExpiry :
    ((after (.boostExpiry 7) (boostCase (.active 10000))).truck? 7).map (fun r => (r.applied, r.boost))
        = some (2000, .cooldown 130000)
      ∧ ((after (.boostExpiry 7) (boostCase (.active 10000))).sections[(2 : SectionId)].holders.map fun h => h.issued)
        = [2000] := by decide +kernel

/-- R33: a cooldown ends with no pass. -/
theorem test_cooldownEnd :
    ((after (.cooldownEnd 7) (boostCase (.cooldown 10000))).truck? 7).map (fun r => r.boost) = some .none := by
  decide +kernel

/-- Truck `n` last heard at a time. -/
def heardAt (n : Nat) (time : Time) (s : State) : State := s.onTruck (id8 n) fun r => { r with lastHeard := some time }

/-- R34: 2,000 ms unheard mark a holder silent. -/
theorem test_silenceLimitExpiry :
    ((after (.silenceLimitExpiry 22) (heardAt 22 8000 walkCase)).truck? 22).map (fun r => r.silent) = some true
      ∧ (after (.silenceLimitExpiry 22) (heardAt 22 8000 walkCase)).events[EventKind.truckSilent.code].subject
        = .truck 22 := by decide +kernel

def abandonCase : State :=
  { walkCase.onTruck 22 (fun r => { r with silent := true, lastHeard := some 1000 }) with now := 31000 }

/-- R36: 30 s unheard release a silent truck. -/
theorem test_abandonment :
    (after (.abandonment 22) abandonCase).truckState 22 = .idle
      ∧ (after (.abandonment 22) abandonCase).events[EventKind.truckAbandoned.code].count = 1 := by decide +kernel

/-- R50: the resync window of 10,000 ms closes. -/
theorem test_resyncWindowClose :
    (after .resyncWindowClose { calm with resyncOpened := some 0 }).resyncOpened = none := by decide +kernel

/-- R61: a refresh calls for a pass on every LIVE section. -/
theorem test_refreshTimerExpiry :
    let t := after .refreshTimerExpiry { walkCase with refreshStart := 9000 }
    (t.refreshStart, t.sections[(0 : SectionId)].passPending, t.sections[(1 : SectionId)].passPending)
      = (10000, true, false) := by decide +kernel

def rampCase : State :=
  live 1 4000 [holder 12 400 1000]
    ((withRoster [truck 12 2 .holder (some 1) 1000] calm).onSection 1 fun r =>
      { r with ramp := [{ truck := 12, target := 1000, stepped := false }] })

/-- R86: profile 3 steps 200 A. -/
theorem test_rampStep :
    (after (.rampStep 1) rampCase).sections[(1 : SectionId)].holders = [holder 12 600 1000]
      ∧ (after (.rampStep 1) rampCase).sections[(1 : SectionId)].ramp
        = [{ truck := 12, target := 1000, stepped := true }] := by decide +kernel

/-- R100: 400 ms after the approach the entry clears. -/
theorem test_clearance :
    ((after (.clearance 1 9) { autoCase with now := 9899 }).breaks[(1 : BreakId)].approaches.map fun e => e.state) = [.approaching]
      ∧ ((after (.clearance 1 9) { autoCase with now := 9900 }).breaks[(1 : BreakId)].approaches.map fun e => e.state)
        = [.cleared 9900] := by decide +kernel

def timeoutCase : State := { passedCase with now := 24800 }

/-- R108: 15 s after it cleared, the crossing is cancelled and T09 is an ordinary holder of S1 again. -/
theorem test_gapTimeout :
    (after (.gapTimeout 1 9) timeoutCase).truckState 9 = .holder
      ∧ (after (.gapTimeout 1 9) timeoutCase).breaks[(1 : BreakId)].approaches = []
      ∧ (after (.gapTimeout 1 9) timeoutCase).breaks[(1 : BreakId)].lastCancellation
        = some { truck := 9, time := 24800 } := by decide +kernel

def heldCase : State :=
  { (live 1 4025 [] calm).onFeeder 1 (fun f => { f with age := .held }) with holdTimer := some 5000 }

/-- R129: half of 4,275 A, rounded down to the quantum, is 2,125 A. -/
theorem test_feederHoldExpiry :
    let t := after .feederHoldExpiry heldCase
    t.feeders[(1 : SectionId)].effective = 2125 ∧ t.feeders[(1 : SectionId)].age = .derated ∧ t.holdTimer = none := by
  decide +kernel

def suspendedCase : State :=
  (live 1 4000 [holder 12 0 0, holder 9 0 0]
    (withRoster [truck 12 2 .suspended (some 1) 1000, truck 9 0 .suspended (some 1) 800] calm)).onFeeder 1
    fun f => { f with nextTurn := some 10000 }

/-- R134: the oldest SUSPENDED holder returns with its floor, and the next turn is 500 ms on. -/
theorem test_restoreTurn :
    let t := after (.restoreTurn 1) suspendedCase
    (t.truckState 12, t.truckState 9, t.feeders[(1 : SectionId)].nextTurn) = (.holder, .suspended, some 10500)
      ∧ (t.sections[(1 : SectionId)].holders.map fun h => h.issued) = [400, 0] := by decide +kernel

def deadCase : State :=
  (suspendedCase.onSection 1 fun r => { r with state := .dead, available := 0 }).onFeeder 1
    fun f => { f with effective := 0, nextTurn := none, restoreEnd := some 10000 }

/-- R135: the stranded holders are given up. -/
theorem test_restoreLapse :
    let t := after (.restoreLapse 1) deadCase
    t.sections[(1 : SectionId)].holders = [] ∧ t.truckState 12 = .idle ∧ t.sections[(1 : SectionId)].state = .dead := by
  decide +kernel

/-- R158: 60 s after its timer's last start the window closes. -/
theorem test_windowTimerExpiry :
    (after .windowTimerExpiry { opened calm with now := 69899 }).windowTimer = some 9900
      ∧ (after .windowTimerExpiry { opened calm with now := 69900 }).windowTimer = none := by decide +kernel

/-! ## Witnesses: a state and operands that meet the hypotheses of each statement of Certificates/Slice0/Obligations.lean -/

/-- Every law's state: a section in use, and a command that a step takes. -/
def lawful (c : Instr) : State := { walkCase with pending := [c] }

theorem witness_idlePartOnlyTicks :
    calm.pending = [] ∧ calm.running = true ∧ calm.dueEvents = [] ∧ inReset.running = false := by decide +kernel

theorem witness_powerOnOfUnwrittenPart : inReset.storeCell = .failing := by decide +kernel

theorem witness_resets :
    inReset.pins.resetLow = true ∧ inReset.pins.powered = true
      ∧ (super .restart walkCase).superTakes 3 .restart := by decide +kernel

theorem witness_sentFrame : (tel 7 (.queued 1 1)).payload.octets.length ≤ 200 := by decide

def beacon : Frame :=
  { control := 0x80, dest := 0xFE, src := 0xF8, type := 0x30, payload := [0], checkOctets := 0xC6D4 }

/-- The octets of a frame with the CHECK it ought to have. -/
def sealed (f : Frame) : List Octet :=
  [0xC5, f.control, f.dest, f.src, f.type, BitVec.ofNat 8 f.payload.length] ++ f.payload
    ++ [(check (f.covered f.control)).extractLsb' 8 8, (check (f.covered f.control)).extractLsb' 0 8]

/-- Telegrams waiting in the receive queue of L1. -/
def fullQueue (n : Nat) : State :=
  calm.onLane 1 fun p => { p with rx := List.replicate n { src := 0xF8, telegram := .linkBeacon 0 } }

/-- The part right after its reset, every lane AWAIT and the resync window open. -/
def awaiting : State := { State.reset with now := 100 }

theorem witness_frameIsAccepted :
    calm.running = true ∧ calm.positionsTold ∧ calm.settings.lanes[(1 : LaneId)].role ≠ .unused
      ∧ calm.lanes[(1 : LaneId)].state = .live ∧ calm.lanes[(1 : LaneId)].partialFrame = []
      ∧ calm.lanes[(1 : LaneId)].rx.length < 8 ∧ beaconFrame.head? = some 0xC5#8
      ∧ frameComplete beaconFrame = true ∧ beaconFrame.length ≤ 208 ∧ frameOf beaconFrame = some beacon
      ∧ judgeControl beacon.control = some (0x80, false) ∧ check (beacon.covered 0x80) = beacon.checkOctets
      ∧ beacon.dest = 0xFE#8
      ∧ judgeTelegram calm.settings.lanes[(1 : LaneId)].role 0x80 beacon
        = some { src := 0xF8, telegram := .linkBeacon 0 } := by decide +kernel

/-- The beacon's frame with another DEST, with a type the lane's role does not allow, and with its CHECK spoilt. -/
def foreignFrame : List Octet := sealed { beacon with dest := 0x33 }
def rejectedFrame : List Octet := sealed { beacon with type := 0x99 }
def brokenFrame : List Octet := beaconFrame.set 8 0xD5

theorem witness_frames :
    calm.frameArrives 1 brokenFrame ∧ check (beacon.covered 0x80) ≠ 0xC6D5
      ∧ frameOf brokenFrame = some { beacon with checkOctets := 0xC6D5 }
      ∧ calm.frameArrives 1 foreignFrame
      ∧ (∃ f, soundFrame foreignFrame f 0x80 false ∧ f.dest ≠ 0xFE#8)
      ∧ calm.frameArrives 1 rejectedFrame
      ∧ (∃ f, soundFrame rejectedFrame f 0x80 false ∧ f.dest = 0xFE#8
          ∧ judgeTelegram calm.settings.lanes[(1 : LaneId)].role 0x80 f = none)
      ∧ soundFrame (beaconFrame.set 1 0xC0) { beacon with control := 0xC0 } 0x80 true
      ∧ (fullQueue 8).frameArrives 1 beaconFrame ∧ ¬ (fullQueue 8).lanes[(1 : LaneId)].rx.length < 8
      ∧ (fullQueue 7).frameArrives 1 beaconFrame ∧ (fullQueue 7).lanes[(1 : LaneId)].rx.length < 8
      ∧ (∀ l : LaneId, awaiting.lanes[l].state ≠ .live)
      ∧ awaiting.frameArrives 1 beaconFrame ∧ awaiting.settings.lanes[(1 : LaneId)].role.isRadio = true
      ∧ awaiting.frameArrives 0 beaconFrame ∧ awaiting.settings.lanes[(0 : LaneId)].role.isRadio = false
      ∧ awaiting.resyncOpened ≠ none ∧ awaiting.carriesTrucks awaiting.settings.lanes[(1 : LaneId)].role = true := by
  refine ⟨by decide +kernel, by decide +kernel, by decide +kernel, by decide +kernel,
    ⟨{ beacon with dest := 0x33, checkOctets := check ({ beacon with dest := 0x33 }.covered 0x80) }, by decide +kernel⟩,
    by decide +kernel,
    ⟨{ beacon with type := 0x99, checkOctets := check ({ beacon with type := 0x99 }.covered 0x80) }, by decide +kernel⟩,
    ?_⟩
  decide +kernel

/-- A lane turned LIVE that is due its RESYNC repeat, and, the window closed, one that is not. -/
theorem witness_frames_turned :
    awaiting.resyncOpened = some 0 ∧ awaiting.lanes[(1 : LaneId)].resyncRepeated = false
      ∧ awaiting.settings.pairingMode ≠ .both ∧ awaiting.lanes[(1 : LaneId)].tx.length < 16
      ∧ awaiting.frameArrives 1 foreignFrame ∧ awaiting.frameArrives 1 rejectedFrame
      ∧ ({ awaiting with resyncOpened := none } : State).frameArrives 1 beaconFrame
      ∧ soundFrame beaconFrame beacon 0x80 false := by decide +kernel

/-- No reading of the broken frame is sound. -/
theorem witness_broken : ∀ f control repaired, ¬ soundFrame brokenFrame f control repaired := by
  rintro f control repaired ⟨hf, hc, hk⟩
  obtain rfl : f = { beacon with checkOctets := 0xC6D5 } :=
    Option.some.inj (hf.symm.trans (by decide +kernel))
  obtain ⟨rfl, rfl⟩ : control = 0x80 ∧ repaired = false := by
    have h : some (control, repaired) = some ((0x80 : Octet), false) := hc.symm.trans (by decide +kernel)
    simpa using h
  exact absurd hk (by decide +kernel)

theorem witness_frameTimeout :
    halfFrame.running = true ∧ halfFrame.lanes[(1 : LaneId)].partialFrame ≠ []
      ∧ halfFrame.lanes[(1 : LaneId)].lastOctet + 5 ≤ halfFrame.now := by decide +kernel

theorem witness_transmission :
    toSend.running = true ∧ toSend.settings.lanes[(1 : LaneId)].role ≠ .unused
      ∧ toSend.lanes[(1 : LaneId)].sending = none ∧ toSend.lanes[(1 : LaneId)].tx = [tel 7 (.queued 1 1)]
      ∧ (sendingCase []).running = true
      ∧ (sendingCase []).lanes[(1 : LaneId)].sending = some { octets := [], started := 9990 }
      ∧ (sendingCase []).lanes[(1 : LaneId)].rateChanges = []
      ∧ (sendingCase twoRates).lanes[(1 : LaneId)].rateChanges = twoRates
      ∧ (∀ c ∈ twoRates.tail, 0 + 1 < c.transmissionsLeft) := by decide +kernel

/-- A SET of the line rate of L0 (free), L1 (sending) and L3 (the lane that carries it, with a change waiting already). -/
def rateCase : State :=
  super (.setItem 0x41 0x00000B 20000) (opened ((sendingCase []).onLane 3 fun p =>
    { p with rateChanges := [{ rate := 38400, transmissionsLeft := 1 }] }))

theorem witness_rateChange :
    rateCase.superTakes 3 (.setItem 0x41 0x00000B 20000) ∧ rateCase.setAnswer 0x41 0x00000B = none
      ∧ isRateFor (20000#32).toNat 19200 ∧ isRateFor 0 19200 ∧ isRateFor 230400 230400
      ∧ (∀ c ∈ rateCase.lanes[(3 : LaneId)].rateChanges, 0 < c.transmissionsLeft)
      ∧ (∀ m : LaneId, rateCase.settings.lanes[m].lineRate ≠ 19200)
      ∧ MemberSet.lists 0x00000B (0 : LaneId).val = true ∧ rateCase.lanes[(0 : LaneId)].sending = none
      ∧ MemberSet.lists 0x00000B (1 : LaneId).val = true ∧ rateCase.lanes[(1 : LaneId)].sending ≠ none
      ∧ rateCase.lanes[(0 : LaneId)].rateChanges = [] ∧ rateCase.lanes[(1 : LaneId)].rateChanges = []
      ∧ MemberSet.lists 0x00000B (3 : LaneId).val = true := by decide +kernel

theorem witness_beacon :
    calm.settings.lanes[(1 : LaneId)].role = .radioA
      ∧ (arrived 1 0xF8 (.linkBeacon 0) calm).atHead 1 0xF8 (.linkBeacon 0)
      ∧ calm.settings.lanes[(2 : LaneId)].role = .radioB
      ∧ (arrived 2 0xF9 (.linkBeacon 0) calm).atHead 2 0xF9 (.linkBeacon 0) := by decide +kernel

theorem witness_silentLane :
    (silent 0 walkCase).running = true ∧ (silent 0 walkCase).laneSilenceDue 0 = true
      ∧ (silent 0 walkCase).settings.lanes[(0 : LaneId)].role = .feeder
      ∧ (silent 0 walkCase).settings.feederHoldTime ≠ 0 := by decide +kernel

theorem witness_silentRadioLane :
    degradingCase.running = true ∧ degradingCase.positionsTold ∧ degradingCase.laneSilenceDue 1 = true
      ∧ degradingCase.settings.pairingMode = .both ∧ degradingCase.degraded = false
      ∧ degradingCase.laneOfRole .radioA = some 1 ∧ degradingCase.laneOfRole .radioB = some 2
      ∧ degradingCase.lanes[(1 : LaneId)].state = .live ∧ degradingCase.lanes[(2 : LaneId)].state = .live := by
  decide +kernel

/-- A copy of `m` from L1, 100 ms old, held for T07, and `m2` arriving on lane `l`. -/
def heldCopy (mode : PairingMode) (l : LaneId) (m m2 : Inbound) : State :=
  { arrived l 7 m2 (withRoster [{ truck 7 1 .holder (some 1) 600 with
      slot := some { telegram := m, lane := 1, arrival := 9900, window := 200 } }] calm) with
    settings := { calm.settings with pairingMode := mode } }

def emptySlotCase (m : Inbound) : State :=
  { arrived 2 7 m (withRoster [truck 7 1 .holder (some 1) 600] calm) with
    settings := { calm.settings with pairingMode := .both } }

/-- One telegram of each of the five types. -/
def truckTelegrams : List Inbound := [.truckAdmit 1 500 0, .truckDemand 500 0, .truckApproach 2, .truckPassed 2, .truckLowered]

theorem witness_copies :
    (∀ m ∈ truckTelegrams, m.isTruck = true
        ∧ (heldCopy .either 2 m m).settings.pairingMode = .either ∧ (heldCopy .either 2 m m).positionsTold
        ∧ (heldCopy .either 2 m m).atHead 2 7 m
        ∧ ((heldCopy .either 2 m m).truck? 7).bind (fun r => r.slot)
          = some { telegram := m, lane := 1, arrival := 9900, window := 200 }
        ∧ (heldCopy .both 2 m m).settings.pairingMode = .both ∧ (heldCopy .both 2 m m).degraded = false
        ∧ (heldCopy .both 2 m m).positionsTold ∧ (heldCopy .both 2 m m).atHead 2 7 m
        ∧ (heldCopy .both 1 m m).atHead 1 7 m
        ∧ (emptySlotCase m).settings.pairingMode = .both ∧ (emptySlotCase m).degraded = false
        ∧ (emptySlotCase m).positionsTold ∧ (emptySlotCase m).atHead 2 7 m
        ∧ ((emptySlotCase m).truck? 7).map (fun r => r.slot) = some none)
      ∧ calm.now < 9900 + 200 ∧ (1 : LaneId) ≠ 2
      ∧ (heldCopy .both 2 .truckLowered (.truckPassed 2)).atHead 2 7 (.truckPassed 2)
      ∧ Inbound.truckLowered ≠ .truckPassed 2
      ∧ (emptySlotCase .truckLowered).running = true
      ∧ bothCase.running = true ∧ bothCase.settings.pairingMode = .both
      ∧ ((bothCase.truck? 7).bind fun r => r.slot) = some copy ∧ copy.arrival + copy.window ≤ bothCase.now := by
  decide +kernel

def unknownCase : State := arrived 1 5 (.truckAdmit 1 1930 1) calm

theorem witness_freshAdmit :
    admitCase.truckActs 1 5 (.truckAdmit 1 1930 1) (truck 5 0 .idle none 400)
      ∧ (truck 5 0 .idle none 400).state = .idle ∧ (1 : Octet).toNat = (1 : SectionId).val
      ∧ admitCase.inService 1 = true ∧ admitCase.isLive 1 = false ∧ admitCase.queues[(1 : SectionId)].length < 8
      ∧ admitCase.positionsTold
      ∧ unknownCase.positionsTold ∧ unknownCase.atHead 1 5 (.truckAdmit 1 1930 1)
      ∧ unknownCase.actsOn 1 5 (.truckAdmit 1 1930 1) = true ∧ unknownCase.truck? 5 = none := by decide +kernel

/-- T05 arrives at S1, LIVE with nobody on it, its available capacity exactly the floor of C0. -/
def admitLive : State := live 1 400 [] admitCase

theorem witness_freshAdmit_live :
    admitLive.truckActs 1 5 (.truckAdmit 1 1930 1) (truck 5 0 .idle none 400) ∧ admitLive.placesLaw
      ∧ admitLive.isLive 1 = true ∧ admitLive.queues[(1 : SectionId)] = []
      ∧ admitLive.settings.sections[(1 : SectionId)].mode ≠ .held ∧ admitLive.inOverdraw 1 = false
      ∧ admitLive.slotFree 1 = true
      ∧ admitLive.committed 1 + admitLive.settings.classes[(0 : ClassId)].floor
        = admitLive.sections[(1 : SectionId)].available
      ∧ (admitLive.onSectionSettings 1 fun c => { c with mode := .held }).settings.sections[(1 : SectionId)].mode = .held
      ∧ (admitLive.onSectionSettings 1 fun c => { c with mode := .held }).committed 1 ≤ 400 := by decide +kernel

/-- S1 with eight trucks queued, the seven in front RAISED and the tail of the rank given; the resync window is open. -/
def admitFull (rank : Rank) : State :=
  let ids := (List.range 8).map fun n => 31 + n
  { (admitCase.onQueue 1 fun _ => ids.zipIdx.map fun p =>
      { truck := id8 p.1, rank := if p.2 < 7 then .raised else rank, reported := some (p.2 + 1) }) with
    roster := admitCase.roster ++ ids.map fun n => truck n 0 .queued (some 1) 400
    resyncOpened := some 9000 }

theorem witness_freshAdmit_full :
    (admitFull .raised).truckActs 1 5 (.truckAdmit 1 1930 1) (truck 5 0 .idle none 400)
      ∧ (admitFull .raised).inService 1 = true ∧ (admitFull .raised).positionsTold
      ∧ (admitFull .raised).queues[(1 : SectionId)]
        = (admitFull .raised).queues[(1 : SectionId)].take 7 ++ [{ truck := 38, rank := .raised, reported := some 8 }]
      ∧ (admitFull .normal).truckActs 1 5 (.truckAdmit 1 1930 1) (truck 5 0 .idle none 400)
      ∧ (admitFull .normal).queues[(1 : SectionId)]
        = (admitFull .normal).queues[(1 : SectionId)].take 7 ++ [{ truck := 38, rank := .normal, reported := some 8 }]
      ∧ 7 ≤ ((admitFull .normal).queues[(1 : SectionId)].take 7).length
      ∧ (1 : Octet).getLsbD 0 = true ∧ (admitFull .normal).resyncOpened.isSome = true
      ∧ (admitFull .normal).placesLaw ∧ (admitFull .normal).isLive 1 = false := by decide +kernel

/-- An ADMIT that names section 6, which no part has, and one that names S1, out of service. -/
theorem witness_freshAdmit_noSection :
    (arrived 1 5 (.truckAdmit 6 1930 1) admitCase).truckActs 1 5 (.truckAdmit 6 1930 1) (truck 5 0 .idle none 400)
      ∧ (∀ k : SectionId, (6 : Octet).toNat = k.val → admitCase.inService k = false)
      ∧ (admitCase.leaveService 1).truckActs 1 5 (.truckAdmit 1 1930 1) (truck 5 0 .idle none 400)
      ∧ (∀ k : SectionId, (1 : Octet).toNat = k.val → (admitCase.leaveService 1).inService k = false)
      ∧ (admitCase.leaveService 1).positionsTold := by decide +kernel

/-- T07 of C1, an ordinary holder of S2 in AUTO, asks for 2,300 A with the boost flag. -/
def boostDemand : State :=
  arrived 1 7 (.truckDemand 2300 1) (live 2 4900 [holder 7 1800 1800] (withRoster [truck 7 1 .holder (some 2) 1800] calm))

theorem witness_demand :
    (∃ r, demandCase.truckActs 1 12 (.truckDemand 1480 0) r ∧ r.state ≠ .idle ∧ demandCase.intervalOver r = true)
      ∧ (∃ r, boostDemand.truckActs 1 7 (.truckDemand 2300 1) r ∧ (1 : Octet).getLsbD 0 = true ∧ r.state = .holder
        ∧ 0 < boostDemand.settings.classes[r.cls].boostLimit ∧ r.sec = some 2 ∧ boostDemand.isLive 2 = true
        ∧ boostDemand.settings.sections[(2 : SectionId)].mode = .auto ∧ boostDemand.intervalOver r = true
        ∧ boostDemand.committed 2 ≤ boostDemand.sections[(2 : SectionId)].available)
      ∧ (0 : Octet).getLsbD 0 = false
      ∧ (∃ r, earlyDemandCase.truckActs 1 12 (.truckDemand 1480 0) r ∧ r.state ≠ .idle
        ∧ earlyDemandCase.intervalOver r = false ∧ earlyDemandCase.positionsTold) :=
  ⟨⟨{ truck 12 2 .holder (some 1) 1000 with lastApplication := some 9000 }, by decide +kernel⟩,
   ⟨truck 7 1 .holder (some 2) 1800, by decide +kernel⟩, by decide,
   ⟨{ truck 12 2 .holder (some 1) 1000 with lastApplication := some 9920 }, by decide +kernel⟩⟩

theorem witness_approach :
    approachCase.truckActs 1 14 (.truckApproach 2) (truck 14 1 .holder (some 1) 1450)
      ∧ (2 : Octet).toNat = breakNumber 1
      ∧ holderIn approachCase.sections[(1 : SectionId)].holders 14 = some (holder 14 1450 1450)
      ∧ entryOf approachCase.breaks[(1 : BreakId)].approaches 14 = none
      ∧ (∀ e ∈ approachCase.queues[(1 : SectionId)], e.truck ≠ 14) := by decide +kernel

theorem witness_passed :
    passedCase.truckActs 1 9 (.truckPassed 2) (truck 9 0 .cleared (some 1) 1600) ∧ (2 : Octet).toNat = breakNumber 1
      ∧ passedCase.breakInUse 1 = true ∧ passedCase.settings.breaks[(1 : BreakId)].evidenceMode ≠ .sensor
      ∧ entryOf passedCase.breaks[(1 : BreakId)].approaches 9 = some (entry 9 (.handover 800) (.cleared 9800) 50)
      ∧ passedCase.placesLaw ∧ sectionAbove 1 = some 2 ∧ passedCase.isLive 2 = true
      ∧ passedCase.committed 2 ≤ passedCase.sections[(2 : SectionId)].available ∧ passedCase.floorOf 9 ≤ 800 := by
  decide +kernel

theorem witness_released :
    lowered21.truckActs 1 21 .truckLowered (truck 21 3 .holder (some 0) 1200)
      ∧ forceCase.superTakes 3 (.forceRelease 21) ∧ forceCase.truck? 21 = some (truck 21 3 .holder (some 0) 1200)
      ∧ lowered21.queuedOnlyAt 21 0 ∧ forceCase.queuedOnlyAt 21 0 := by decide +kernel

theorem witness_pendingDemand :
    waitingCase.running = true
      ∧ (waitingCase.truck? 12).map (fun r => (r.waiting, r.silent, waitingCase.intervalOver r))
        = some (some { amps := 1500, boost := false }, false, true) := by decide +kernel

theorem witness_boost :
    (boostCase (.active 10000)).running = true
      ∧ ((boostCase (.active 10000)).truck? 7).map (fun r => r.boost) = some (.active 10000)
      ∧ ((boostCase (.cooldown 10000)).truck? 7).map (fun r => r.boost) = some (.cooldown 10000)
      ∧ 10000 ≤ (boostCase (.cooldown 10000)).now := by decide +kernel

def queuedCase : State :=
  (withRoster [{ truck 5 0 .queued (some 1) 400 with lastHeard := some 8000 }] calm).onQueue 1 fun _ => [queued 5 1]

theorem witness_silence :
    ((heardAt 22 8000 walkCase).truck? 22).map (fun r => (r.state, r.silent, r.lastHeard))
        = some (.holder, false, some 8000)
      ∧ (∀ j : SectionId, ∀ e ∈ (heardAt 22 8000 walkCase).queues[j], e.truck ≠ 22)
      ∧ 8000 + walkCase.settings.silenceLimit ≤ walkCase.now ∧ walkCase.now < 8000 + walkCase.settings.abandonLimit
      ∧ (queuedCase.truck? 5).map (fun r => (r.state, r.sec, r.silent, r.lastHeard))
        = some (.queued, some 1, false, some 8000)
      ∧ queuedCase.queuedOnlyAt 5 1 ∧ 8000 + queuedCase.settings.silenceLimit ≤ queuedCase.now := by decide +kernel

/-- T22 unheard for 30 s, not marked silent so far. -/
def longSilentCase : State := { heardAt 22 1000 walkCase with now := 31000 }

theorem witness_silence_abandons :
    longSilentCase.running = true ∧ longSilentCase.queuedOnlyAt 22 0
      ∧ (longSilentCase.truck? 22).map (fun r => (r.state, r.sec, r.silent, r.lastHeard))
        = some (.holder, some 0, false, some 1000)
      ∧ 1000 + longSilentCase.settings.silenceLimit ≤ longSilentCase.now
      ∧ 1000 + longSilentCase.settings.abandonLimit ≤ longSilentCase.now := by decide +kernel

/-- R36: the truck becomes silent and is abandoned in one event. -/
theorem test_silenceLimitExpiry_abandons :
    (after (.silenceLimitExpiry 22) longSilentCase).truckState 22 = .idle
      ∧ (after (.silenceLimitExpiry 22) longSilentCase).events[EventKind.truckSilent.code].count = 1
      ∧ (after (.silenceLimitExpiry 22) longSilentCase).events[EventKind.truckAbandoned.code].count = 1 := by
  decide +kernel

theorem witness_abandonment :
    abandonCase.running = true
      ∧ (abandonCase.truck? 22).map (fun r => (r.silent, r.sec, r.lastHeard)) = some (true, some 0, some 1000)
      ∧ abandonCase.queuedOnlyAt 22 0 ∧ 1000 + abandonCase.settings.abandonLimit ≤ abandonCase.now := by decide +kernel

theorem witness_deficit :
    (deficitCase.breaks[(3 : BreakId)].approaches.map fun e => e.truck).Nodup
      ∧ (∀ b, breakBelow 3 = some b → (deficitCase.breaks[b].approaches.map fun e => e.truck).Nodup)
      ∧ deficitCase.distinctAt 3 ∧ autoCase.committed 2 ≤ autoCase.sections[(2 : SectionId)].available
      ∧ (deficitCase.deficitCheck 3).handoversInto 3 ≠ deficitCase.handoversInto 3
      ∧ (deficitCase.deficitCheck 3).sections[(3 : SectionId)].holders ≠ deficitCase.sections[(3 : SectionId)].holders := by
  decide +kernel

theorem witness_fill :
    ∀ l ∈ [({ weight := 3, cap := 54, share := 0, reserved := none } : FillLine),
        { weight := 2, cap := 20, share := 0, reserved := some 12 }],
      l.share = 0 ∧ (l.reserved = none → l.share = 0) ∧ (l.takesPart = true → 1 ≤ l.weight) := by
  decide

/-- A HELD section with two SUSPENDED holders. -/
def heldMode : State := suspendedCase.onSectionSettings 1 fun c => { c with mode := .held }

theorem witness_pass :
    autoCase.running = true ∧ autoCase.isLive 2 = true ∧ autoCase.distinctAt 2 ∧ autoCase.positionsTold
      ∧ (after (.allocationPass 2) autoCase).hasSuspended 2 = false
      ∧ heldMode.running = true ∧ heldMode.isLive 1 = true ∧ heldMode.distinctAt 1
      ∧ heldMode.settings.sections[(1 : SectionId)].mode = .held
      ∧ (after (.allocationPass 1) heldMode).hasSuspended 1 = true := by decide +kernel

theorem witness_rampStep :
    rampCase.running = true ∧ rampCase.rampDue 1 = some { truck := 12, target := 1000, stepped := false }
      ∧ holderIn rampCase.sections[(1 : SectionId)].holders 12 = some (holder 12 400 1000) ∧ 400 ≤ 1000 := by
  decide +kernel

theorem witness_gapTimer :
    timeoutCase.running = true ∧ entryOf timeoutCase.breaks[(1 : BreakId)].approaches 14 = none
      ∧ (entryOf autoCase.breaks[(1 : BreakId)].approaches 9).map (fun e => e.state) = some .approaching
      ∧ (entryOf timeoutCase.breaks[(1 : BreakId)].approaches 9).map (fun e => e.state) = some (.cleared 9800)
      ∧ passedCase.now < 9800 + passedCase.settings.breaks[(1 : BreakId)].gapTimeout
      ∧ 9800 + timeoutCase.settings.breaks[(1 : BreakId)].gapTimeout ≤ timeoutCase.now := by decide +kernel

/-- T09's crossing with S1 LIVE and room for its floor, with S1 LIVE and none, and with S1 not LIVE. -/
theorem witness_gapTimer_returns :
    timeoutCase.placesLaw ∧ holderIn timeoutCase.sections[(1 : SectionId)].holders 9 = some (holder 9 50 50)
      ∧ (entryOf timeoutCase.breaks[(1 : BreakId)].approaches 9).map (fun e => e.kind) = some (.handover 800)
      ∧ sectionAbove 1 = some 2 ∧ timeoutCase.isLive 1 = true
      ∧ timeoutCase.committed 1 + timeoutCase.floorOf 9 ≤ timeoutCase.sections[(1 : SectionId)].available + 50
      ∧ (live 1 300 [holder 9 50 50] timeoutCase).committed 1 + timeoutCase.floorOf 9 > 300 + 50
      ∧ (live 1 300 [holder 9 50 50] timeoutCase).placesLaw
      ∧ (timeoutCase.onSection 1 fun r => { r with state := .dead }).placesLaw
      ∧ (timeoutCase.onSection 1 fun r => { r with state := .dead }).isLive 1 = false := by decide +kernel

def aOnlyCase : State := { autoCase with settings := { autoCase.settings with pairingMode := .aOnly } }

theorem witness_clearance :
    aOnlyCase.running = true
      ∧ entryOf aOnlyCase.breaks[(1 : BreakId)].approaches 9 = some (entry 9 (.handover 800) .approaching 50)
      ∧ 9500 + aOnlyCase.settings.breaks[(1 : BreakId)].settleTime ≤ aOnlyCase.now
      ∧ 9899 < 9500 + aOnlyCase.settings.breaks[(1 : BreakId)].settleTime
      ∧ aOnlyCase.carriesLane 1 = true ∧ aOnlyCase.carriesLane 2 = false
      ∧ autoCase.carriesLane 1 = true ∧ autoCase.carriesLane 2 = true := by decide +kernel

def telegramBreak : State := calm.onBreakSettings 2 fun c => { c with evidenceMode := .telegram }

theorem witness_edge :
    calm.running = true ∧ calm.positionsTold ∧ 3 = breakNumber 2 ∧ calm.gapRead 2 = true
      ∧ calm.breaks[(2 : BreakId)].reference = some (!true)
      ∧ edgeSelected calm.settings.breaks[(2 : BreakId)].edgeSelect true = true
      ∧ calm.settings.breaks[(2 : BreakId)].evidenceMode ≠ .telegram ∧ calm.breaks[(2 : BreakId)].lastEdge = none
      ∧ calm.breaks[(2 : BreakId)].approaches = [] ∧ calm.breaks[(2 : BreakId)].lastCancellation = none
      ∧ calm.breaks[(2 : BreakId)].lastCompletion = none
      ∧ telegramBreak.gapRead 2 = true ∧ telegramBreak.settings.breaks[(2 : BreakId)].evidenceMode = .telegram
      ∧ edgeSelected .falling true = false := by decide +kernel

/-- The input of B3 with edge select FALLING, so that a rising edge is not of the selected kind. -/
theorem witness_edge_other_kind :
    let s := calm.onBreakSettings 2 fun c => { c with edgeSelect := .falling }
    s.gapRead 2 = true ∧ edgeSelected s.settings.breaks[(2 : BreakId)].edgeSelect true = false := by decide +kernel

/-- An accepted edge at B3 `n` ms ago, with the dead time of 500 ms. -/
def edgeBefore (n : Nat) : State := calm.onBreak 2 fun r => { r with lastEdge := some (10000 - n) }

theorem witness_edge_deadTime :
    (edgeBefore 499).gapRead 2 = true ∧ (edgeBefore 499).positionsTold
      ∧ (∃ x, (edgeBefore 499).breaks[(2 : BreakId)].lastEdge = some x
          ∧ (edgeBefore 499).now < x + (edgeBefore 499).settings.breaks[(2 : BreakId)].deadTime)
      ∧ (edgeBefore 500).gapRead 2 = true
      ∧ (∀ x ∈ (edgeBefore 500).breaks[(2 : BreakId)].lastEdge,
          x + (edgeBefore 500).settings.breaks[(2 : BreakId)].deadTime ≤ (edgeBefore 500).now) :=
  ⟨by decide +kernel, by decide +kernel, ⟨9501, by decide +kernel⟩, by decide +kernel, by decide +kernel⟩

/-- The break B2 of a state right after a PASSED of T30 completed there. -/
def completedBy (evidence : EvidenceKind) (absorbed : Bool) (s : State) : State :=
  s.onBreak 1 fun r =>
    { r with lastCompletion := some { truck := 30, evidence := evidence, time := 9000, edgeAbsorbed := absorbed } }

/-- T09 of S1, its crossing at B2 cancelled 1 s ago; S2 above in the state given. -/
def lateCase (f : State → State) : State :=
  f ((live 1 4000 [holder 9 400 1200] (withRoster [truck 9 0 .holder (some 1) 1200] calm)).onBreak 1 fun r =>
    { r with lastCancellation := some { truck := 9, time := 9000 } })

theorem witness_edge_evidence :
    (completedBy .telegram false calm).gapRead 1 = true
      ∧ (completedBy .telegram false calm).now
        < 9000 + (completedBy .telegram false calm).settings.breaks[(1 : BreakId)].evidenceWindow
      ∧ (passedCase.breaks[(1 : BreakId)].approaches = [entry 9 (.handover 800) (.cleared 9800) 50])
      ∧ passedCase.placesLaw ∧ passedCase.positionsTold ∧ passedCase.breaks[(1 : BreakId)].lastCompletion = none
      ∧ passedCase.gapRead 1 = true ∧ passedCase.breaks[(1 : BreakId)].reference = some (!true)
      ∧ passedCase.breaks[(1 : BreakId)].lastEdge = none
      ∧ passedCase.settings.breaks[(1 : BreakId)].evidenceMode ≠ .telegram
      ∧ (completedBy .telegram true passedCase).placesLaw := by decide +kernel

theorem witness_edge_late :
    (lateCase id).placesLaw ∧ (lateCase id).breaks[(1 : BreakId)].approaches = []
      ∧ (lateCase id).breaks[(1 : BreakId)].lastCancellation = some { truck := 9, time := 9000 }
      ∧ (lateCase id).now < 9000 + (lateCase id).settings.breaks[(1 : BreakId)].lateWindow
      ∧ (lateCase id).isOrdinary 9 = true
      ∧ holderIn (lateCase id).sections[(1 : SectionId)].holders 9 = some (holder 9 400 1200)
      ∧ (lateCase id).isCrest 1 = false ∧ sectionAbove 1 = some 2 ∧ (lateCase id).inService 2 = true
      ∧ (lateCase id).isLive 2 = false ∧ (lateCase id).isSilent 9 = false
      ∧ (lateCase (live 2 400 [])).isLive 2 = true ∧ (lateCase (live 2 400 [])).slotFree 2 = true
      ∧ (lateCase (live 2 400 [])).committed 2 + (lateCase (live 2 400 [])).floorOf 9
        = (lateCase (live 2 400 [])).sections[(2 : SectionId)].available
      ∧ (lateCase fun s => s.leaveService 2).inService 2 = false
      ∧ (lateCase fun s => s.onSettings fun c => { c with sectionCount := 2 }).isCrest 1 = true := by decide +kernel

/-- A passage at B2 that no entry claims: the last edge 500 ms back, the last completion by a sensor, and a crossing of T09
cancelled just as long ago as the late window. -/
def unclaimedCase : State :=
  (completedBy .sensor false (live 1 4000 [holder 9 400 1200] (withRoster [truck 9 0 .holder (some 1) 1200] calm))).onBreak 1
    fun r => { r with
      lastEdge := some 9500
      lastCancellation := some { truck := 9, time := 7000 } }

theorem witness_edge_unclaimed :
    unclaimedCase.running = true ∧ unclaimedCase.positionsTold ∧ unclaimedCase.placesLaw ∧ unclaimedCase.gapRead 1 = true
      ∧ unclaimedCase.breaks[(1 : BreakId)].reference = some (!true)
      ∧ (∀ x ∈ unclaimedCase.breaks[(1 : BreakId)].lastEdge,
          x + unclaimedCase.settings.breaks[(1 : BreakId)].deadTime ≤ unclaimedCase.now)
      ∧ (∀ c ∈ unclaimedCase.breaks[(1 : BreakId)].lastCompletion, c.evidence ≠ .telegram)
      ∧ unclaimedCase.breaks[(1 : BreakId)].approaches = []
      ∧ (∀ c ∈ unclaimedCase.breaks[(1 : BreakId)].lastCancellation,
          c.time + unclaimedCase.settings.breaks[(1 : BreakId)].lateWindow = unclaimedCase.now) := by decide +kernel

theorem witness_feederReport :
    (reportCase .closed calm).laneOfRole .feeder = some 0
      ∧ (reportCase .closed calm).atHead 0 0xF1 (.feederReport 1 .closed 5200 4050 2380)
      ∧ (1 : Octet).toNat = (1 : SectionId).val ∧ (reportCase .closed calm).inService 1 = true
      ∧ (reportCase .lockedOut calm).atHead 0 0xF1 (.feederReport 1 .lockedOut 5200 4050 2380) := by decide +kernel

theorem witness_trip :
    tripCase.laneOfRole .feeder = some 0 ∧ tripCase.atHead 0 0xF1 (.feederReport 1 .tripped 5200 4050 2380)
      ∧ tripCase.isLive 1 = true ∧ holder 12 400 400 ∈ tripCase.sections[(1 : SectionId)].holders
      ∧ tripCase.truck? 12 = some (truck 12 2 .holder (some 1) 1000) ∧ tripCase.settings.restoreWindow ≠ 0
      ∧ (∀ x ∈ tripCase.sections[(1 : SectionId)].holders,
        (∀ j : SectionId, ∀ e ∈ tripCase.queues[j], e.truck ≠ x.truck)
          ∧ ∀ j : SectionId, j ≠ 1 → ∀ y ∈ tripCase.sections[j].holders, y.truck ≠ x.truck) := by decide +kernel

theorem witness_holdExpiry :
    heldCase.running = true ∧ heldCase.holdTimer = some 5000 ∧ 5000 + heldCase.settings.feederHoldTime ≤ heldCase.now
      ∧ heldCase.feeders[(1 : SectionId)].age = .held ∧ heldCase.isLive 1 = true := by decide +kernel

theorem witness_restore :
    suspendedCase.running = true ∧ suspendedCase.turnDue 1 = true ∧ suspendedCase.oldestSuspended 1 = some 12
      ∧ suspendedCase.committed 1 ≤ suspendedCase.sections[(1 : SectionId)].available
      ∧ deadCase.running = true ∧ deadCase.positionsTold ∧ deadCase.lapseDue 1 = true
      ∧ (∀ h ∈ deadCase.sections[(1 : SectionId)].holders, (∀ r ∈ deadCase.truck? h.truck, r.sec = some 1) ∧
        ∀ e ∈ deadCase.queues[(1 : SectionId)], e.truck ≠ h.truck)
      ∧ (∀ e ∈ deadCase.breaks[(1 : BreakId)].approaches, e.isHandover = false) := by decide +kernel

theorem witness_configWindow :
    (super (.configOpen 0x123456) calm).superTakes 3 (.configOpen 0x123456)
      ∧ (super .configClose (opened calm)).superTakes 3 .configClose := by decide +kernel

theorem witness_set :
    (super (.setItem 0x12 2 310) calm).superTakes 3 (.setItem 0x12 2 310)
      ∧ (super (.setItem 0x12 2 310) calm).setAnswer 0x12 2 = some .notOpen
      ∧ setCase.superTakes 3 (.setItem 0x12 2 310) ∧ setCase.setAnswer 0x12 2 = none := by decide +kernel

theorem witness_set_refused :
    (super (.setItem 0x60 2 1) (opened calm)).superTakes 3 (.setItem 0x60 2 1)
      ∧ (super (.setItem 0x60 2 1) (opened calm)).setAnswer 0x60 2 = some .unknownItem
      ∧ (super (.setItem 0x18 2 1) (opened calm)).setAnswer 0x18 2 = some .unknownItem
      ∧ (super (.setItem 0x12 2 310) (opened storing)).superTakes 3 (.setItem 0x12 2 310)
      ∧ (super (.setItem 0x12 2 310) (opened storing)).setAnswer 0x12 2 = some .busy
      ∧ (super (.setItem 0x11 2 5000) (opened { calm with lock := true })).superTakes 3 (.setItem 0x11 2 5000)
      ∧ (super (.setItem 0x11 2 5000) (opened { calm with lock := true })).setAnswer 0x11 2 = some .locked
      ∧ (super (.setItem 0x12 0x40 310) (opened calm)).superTakes 3 (.setItem 0x12 0x40 310)
      ∧ (super (.setItem 0x12 0x40 310) (opened calm)).setAnswer 0x12 0x40 = some .emptySet := by decide +kernel

/-- A SET of one item of S1, C1 or L1, or of the part, arriving in an open window. -/
def setOf (item : Octet) (value : BitVec 32) : State := super (.setItem item 2 value) (opened rampCase)

abbrev setReady (item : Octet) (value : BitVec 32) : Prop :=
  (setOf item value).superTakes 3 (.setItem item 2 value) ∧ (setOf item value).setAnswer item 2 = none

theorem witness_set_items :
    setReady 0x11 5000 ∧ setReady 0x13 2075 ∧ setReady 0x14 2425 ∧ setReady 0x30 10 ∧ setReady 0x36 0
      ∧ setReady 0x01 3 ∧ setReady 0x10 0 ∧ setReady 0x40 3
      ∧ (setOf 0x01 3).serviceLaw ∧ (setOf 0x10 0).serviceLaw := by decide +kernel

/-- The same SET with a copy from L1 in the pairing slot of T12, in BOTH mode. -/
def pairingCase : State :=
  (setOf 0x0A 0).onTruck 12 (fun r => { r with
    slot := some { telegram := .truckLowered, lane := 1, arrival := 9990, window := 200 } }) |>.onSettings
    fun c => { c with pairingMode := .both }

theorem witness_set_others :
    setReady 0x20 0 ∧ setReady 0x28 10001 ∧ setReady 0x02 5001 ∧ setReady 0x0C 0x1FFFFF ∧ setReady 0x42 100
      ∧ setReady 0x41 20000 ∧ isRateFor (20000#32).toNat 19200 ∧ setReady 0x13 2076
      ∧ pairingCase.superTakes 3 (.setItem 0x0A 2 0) ∧ pairingCase.setAnswer 0x0A 2 = none
      ∧ pairingCase.settings.pairingMode = .both := by decide +kernel

theorem witness_set_others_items :
    itemOfCode (0x20 : Octet).toNat = some (.brk .gapEnabled) ∧ itemOfCode (0x28 : Octet).toNat = some (.brk .lateWindow)
      ∧ itemOfCode (0x02 : Octet).toNat = some (.part .demandInterval)
      ∧ itemOfCode (0x0C : Octet).toNat = some (.part .supervisoryMask)
      ∧ itemOfCode (0x0A : Octet).toNat = some (.part .pairingMode)
      ∧ MemberSet.breaks 2 = [0] ∧ breakNumber 0 = 1
      ∧ (BreakSettings.default.afterSet 0 .gapEnabled).gapEnabled = false
      ∧ (Settings.default.afterSet 0x1FFFFF .supervisoryMask).supervisoryMask = 0xFFFFF
      ∧ Settings.default.sections[(1 : SectionId)].cut + 25 = 2075 ∧ ¬ (2075 + 1 ≤ 2075) := by decide +kernel

/-- R125, R160: with the cut at 2,050 V a knee written at 2,075 V is taken as it is and ACCEPTED, and one at 2,074 V is taken as
2,075 V and CLAMPED. -/
theorem witness_set_knee :
    kneeSetting 2050 2075 = 2075 ∧ setCode (.word (kneeSetting 2050 2075)) 2075 = .accepted
      ∧ kneeSetting 2050 2074 = 2075 ∧ setCode (.word (kneeSetting 2050 2074)) 2074 = .clamped := by decide +kernel

theorem witness_set_places : (setOf 0x01 3).placesLaw ∧ (setOf 0x10 0).placesLaw := by decide +kernel

theorem witness_set_effects :
    itemOfCode (0x11 : Octet).toNat = some (.sec .rating) ∧ itemOfCode (0x13 : Octet).toNat = some (.sec .knee)
      ∧ itemOfCode (0x14 : Octet).toNat = some (.sec .cut) ∧ itemOfCode (0x30 : Octet).toNat = some (.cls .floor)
      ∧ itemOfCode (0x36 : Octet).toNat = some (.cls .boostLimit)
      ∧ rampCase.isLive 1 = true ∧ rampCase.feeders[(1 : SectionId)].age = .fresh
      ∧ rampCase.feeders[(1 : SectionId)].lastReport.isSome = true
      ∧ (SectionSettings.default.afterSet 5000 .rating) ≠ SectionSettings.default
      ∧ (SectionSettings.default.afterSet 2075 .knee).knee = 2075 ∧ (SectionSettings.default.afterSet 2425 .cut).cut = 2425
      ∧ MemberSet.lanes 2 = [1] ∧ Item.members (.sec .rating) 2 = [.sec 1] := by decide +kernel

/-- A SET of the floor of C2, the class of T12, which stands on the LIVE section S1. -/
def classCase : State := super (.setItem 0x30 4 600) (opened rampCase)

theorem witness_set_class :
    classCase.superTakes 3 (.setItem 0x30 4 600) ∧ classCase.setAnswer 0x30 4 = none
      ∧ (classCase.truck? 12).map (fun r => r.cls) = some 2 ∧ classCase.isLive 1 = true
      ∧ (∃ h ∈ classCase.sections[(1 : SectionId)].holders, h.truck = 12)
      ∧ (classCase.settings.classes[(2 : ClassId)].afterSet 600 .floor) ≠ classCase.settings.classes[(2 : ClassId)] := by
  decide +kernel

theorem witness_rolesUnique : (setOf 0x40 3).settings.rolesUnique := by
  show Settings.rolesUnique Settings.default
  unfold Settings.rolesUnique
  decide +kernel

theorem witness_get :
    (super (.getItem 0x11 6) calm).superTakes 3 (.getItem 0x11 6)
      ∧ itemOfCode (0x11 : Octet).toNat = some (.sec .rating)
      ∧ Item.members (.sec .rating) 6 = [.sec 1, .sec 2] := by decide +kernel

theorem witness_setMode : (super (.setMode 2 .held) calm).superTakes 3 (.setMode 2 .held) := by decide +kernel

theorem witness_enrol :
    enrolCase.superTakes 3 (.enrol 7 1) ∧ enrolCase.windowOpen = true ∧ enrolCase.storeJob = none
      ∧ isTruckAddress 7 = true ∧ enrolCase.truck? 7 = none ∧ (1 : Octet).toNat = (1 : ClassId).val
      ∧ unenrolCase.superTakes 3 (.unenrol 21) ∧ unenrolCase.windowOpen = true ∧ unenrolCase.storeJob = none
      ∧ unenrolCase.truck? 21 = some (truck 21 3 .holder (some 0) 1200) := by decide +kernel

/-- A full roster of 32 trucks, T101 to T132. -/
def fullRoster : State :=
  super (.enrol 7 1) (opened (withRoster ((List.range 32).map fun n => truck (101 + n) 0 .idle none 400) calm))

theorem witness_enrol_full :
    fullRoster.superTakes 3 (.enrol 7 1) ∧ fullRoster.windowOpen = true ∧ fullRoster.storeJob = none
      ∧ fullRoster.truck? 7 = none ∧ fullRoster.roster.length = 32 := by decide +kernel

theorem witness_readTable :
    (super (.readTable 5) walkCase).superTakes 3 (.readTable 5)
      ∧ (∃ k : SectionId, MemberSet.lists 5 k.val = true)
      ∧ (super (.readTable 0xC0) walkCase).superTakes 3 (.readTable 0xC0) ∧ MemberSet.sections 0xC0 = [] := by
  decide +kernel

theorem witness_clearEvents : raisedCase.superTakes 3 (.clearEvents 1) := by decide +kernel

theorem witness_store :
    (super .store (opened walkCase)).superTakes 3 .store ∧ (opened walkCase).windowOpen = true
      ∧ walkCase.storeJob = none ∧ storing.running = true
      ∧ (storing.storeJob.map fun j => decide (j.started < storing.now)) = some true := by decide +kernel

theorem witness_commissionLock :
    (super .commissionLock (opened calm)).superTakes 3 .commissionLock ∧ (opened calm).windowTimer ≠ none
      ∧ (opened calm).storeJob = none
      ∧ (super .commissionLock calm).superTakes 3 .commissionLock ∧ calm.windowTimer = none
      ∧ (super .commissionLock (opened storing)).superTakes 3 .commissionLock ∧ (opened storing).windowTimer ≠ none
      ∧ (opened storing).storeJob ≠ none := by decide +kernel

theorem witness_timers :
    ({ calm with resyncOpened := some 0 } : State).running = true ∧ 0 + calm.settings.resyncWindow ≤ calm.now
      ∧ ({ opened calm with now := 69900 } : State).running = true ∧ 9900 + 60000 ≤ 69900
      ∧ ({ walkCase with refreshStart := 9000 } : State).running = true
      ∧ 9000 + walkCase.settings.refreshInterval ≤ walkCase.now := by decide +kernel

theorem witness_settingsLaw : (lawful (.allocationPass 0)).settingsLaw := by
  show Settings.inRange Settings.default ∧ True ∧ True
  simp only [Settings.inRange, SectionSettings.inRange, BreakSettings.inRange, ClassRecord.inRange, LaneSettings.inRange,
    Settings.rolesUnique, ampsIn]
  repeat' apply And.intro
  all_goals decide +kernel

theorem witness_rosterLaw : (lawful (.allocationPass 0)).rosterLaw := by
  show enrolmentsOk _ ∧ True ∧ True
  unfold enrolmentsOk
  decide +kernel

theorem witness_boundsLaw : (lawful (.allocationPass 0)).boundsLaw := by
  unfold State.boundsLaw LanePort.inBounds LaneCounts.inRange EventRecord.inBounds
  decide +kernel

theorem witness_laws :
    (lawful (.allocationPass 0)).capacityLaw ∧ (lawful (.allocationPass 0)).positionsTold
      ∧ (lawful (.allocationPass 0)).serviceLaw ∧ (lawful (.allocationPass 0)).degradedLaw := by decide +kernel

/-- Trucks in every kind of place: two holders of S3, a third on its way out at B4, one coming in at B3, two queued. -/
def placed : State :=
  { (deficitCase.onQueue 3 fun _ =>
      [{ truck := 40, rank := .raised, reported := some 1 }, { truck := 41, rank := .normal, reported := some 2 }]) with
    roster := deficitCase.roster ++ [truck 40 0 .queued (some 3) 400, truck 41 0 .queued (some 3) 400]
    pending := [.allocationPass 3] }

theorem witness_places :
    placed.slotsLaw ∧ placed.rankLaw ∧ (rampCase.placesLaw ∧ rampCase.rampLaw)
      ∧ (placed.onSection 2 fun r => { r with holders := [holder 9 50 50] }).placesLaw := by decide +kernel

theorem witness_targetsFit :
    rampCase.placesLaw ∧ rampCase.capacityLaw ∧ rampCase.targetsFit ∧ rampCase.isLive 1 = true
      ∧ rampCase.sections[(1 : SectionId)].passPending = false := by decide +kernel

theorem witness_places_step : ∃ t, step placed = .next t := ⟨_, rfl⟩

theorem witness_lawful_steps : ∃ t, step (lawful (.allocationPass 0)) = .next t := ⟨_, rfl⟩

theorem witness_lock :
    exec .store { calm with lock := true } = .next (after .store { calm with lock := true })
      ∧ Instr.clearsLock .store = false ∧ Instr.store ≠ .commissionLock := by
  refine ⟨rfl, rfl, by decide⟩

theorem witness_onlyClosedReport :
    (reportCase .closed calm).isLive 1 = false
      ∧ (after (.feederReport 1 .closed 5200 4050 2380) (reportCase .closed calm)).isLive 1 = true := by decide +kernel

theorem witness_eventFlags :
    Instr.clearsEvents (.clearance 1 9) = false
      ∧ (calm.raise .truckSilent (.truck 7)).events[(0 : Fin 20)].flag = true
      ∧ (calm.raise .truckSilent (.truck 7)).events[(0 : Fin 20)].count ≤ 255 := by decide +kernel

end Sys2Proof.Tests
end

section
/-! PROOFS. What an allocation pass may do to the trucks: a pass is a chain of a few elementary moves, so that whatever each
move keeps, the pass keeps (R59 to R76). -/

namespace Sys2Proof.Machine.TruckRoster

/-! ## Records by truck (R17) -/

theorem truck?_of_roster {s t : State} (h : t.roster = s.roster) (x : TruckId) : t.truck? x = s.truck? x := by
  unfold State.truck?; rw [h]

/-- A change of one truck's record is not seen at another truck. -/
theorem truck?_onTruck_ne (s : State) {t x : TruckId} {f : Truck → Truck} (h : ∀ r : Truck, (f r).id = r.id)
    (hx : x ≠ t) : (s.onTruck t f).truck? x = s.truck? x := by
  rw [truck?_onTruck s t x f h]
  cases hr : s.truck? x with
  | none => rfl
  | some r => simp [truck?_id hr, hx]

theorem truck?_onTruck_self {s : State} {t : TruckId} {r : Truck} {f : Truck → Truck}
    (h : ∀ r : Truck, (f r).id = r.id) (hr : s.truck? t = some r) : (s.onTruck t f).truck? t = some (f r) := by
  rw [truck?_onTruck s t t f h, hr]
  simp [truck?_id hr]

theorem truckState_of_some {s : State} {t : TruckId} {r : Truck} (h : s.truck? t = some r) :
    s.truckState t = r.state := by
  simp [State.truckState, h]

@[simp] theorem endBoost_id (c : ClassRecord) (now : Time) (r : Truck) : (r.endBoost c now).id = r.id := by
  unfold Truck.endBoost Truck.reclamp; split <;> rfl

@[simp] theorem toIdle_id (c : ClassRecord) (now : Time) (r : Truck) : (r.toIdle c now).id = r.id :=
  endBoost_id c now r

/-! ## What a pass or a release may do to a record -/

/-- What becomes of a record in a pass or a release: the enrolment, the demand asked for, the times and the pairing slot stay;
a pending demand may be discarded; a boost that is not ACTIVE stays, and the applied demand with it (R21, R30, R33). -/
structure Carried (r r' : Truck) : Prop where
  id : r'.id = r.id
  cls : r'.cls = r.cls
  requested : r'.requested = r.requested
  lastApplication : r'.lastApplication = r.lastApplication
  lastHeard : r'.lastHeard = r.lastHeard
  slot : r'.slot = r.slot
  waiting : r'.waiting = r.waiting ∨ r'.waiting = none
  boost : r.boost.isActive = false → r'.boost = r.boost ∧ r'.applied = r.applied

theorem Carried.refl (r : Truck) : Carried r r := ⟨rfl, rfl, rfl, rfl, rfl, rfl, .inl rfl, fun _ => ⟨rfl, rfl⟩⟩

theorem Carried.trans {a b c : Truck} (h : Carried a b) (g : Carried b c) : Carried a c where
  id := g.id.trans h.id
  cls := g.cls.trans h.cls
  requested := g.requested.trans h.requested
  lastApplication := g.lastApplication.trans h.lastApplication
  lastHeard := g.lastHeard.trans h.lastHeard
  slot := g.slot.trans h.slot
  waiting := g.waiting.elim (fun e => h.waiting.imp e.trans e.trans) .inr
  boost := fun ha => by
    obtain ⟨hb, hd⟩ := h.boost ha
    obtain ⟨gb, gd⟩ := g.boost (by rw [hb]; exact ha)
    exact ⟨gb.trans hb, gd.trans hd⟩

theorem carried_endBoost (c : ClassRecord) (now : Time) (r : Truck) : Carried r (r.endBoost c now) := by
  unfold Truck.endBoost
  split
  · next h => exact ⟨rfl, rfl, rfl, rfl, rfl, rfl, .inl rfl, fun h' => by rw [h] at h'; cases h'⟩
  · exact .refl r

theorem carried_toIdle (c : ClassRecord) (now : Time) (r : Truck) : Carried r (r.toIdle c now) := by
  have h := carried_endBoost c now r
  exact ⟨h.id, h.cls, h.requested, h.lastApplication, h.lastHeard, h.slot, .inr rfl, h.boost⟩

/-- A move to another state or section alone. -/
theorem carried_place (r : Truck) (state : TruckState) (sec : Option SectionId) :
    Carried r { r with state := state, sec := sec } := ⟨rfl, rfl, rfl, rfl, rfl, rfl, .inl rfl, fun _ => ⟨rfl, rfl⟩⟩

/-- Every record of the roster has been carried over in its place. -/
def RecordsCarried (s t : State) : Prop := ∃ f : Truck → Truck, (∀ r, Carried r (f r)) ∧ t.roster = s.roster.map f

theorem RecordsCarried.of_roster {s t : State} (h : t.roster = s.roster) : RecordsCarried s t :=
  ⟨id, .refl, by rw [h, List.map_id]⟩

theorem RecordsCarried.trans {s t u : State} (h : RecordsCarried s t) (g : RecordsCarried t u) : RecordsCarried s u := by
  obtain ⟨f, hf, ht⟩ := h
  obtain ⟨f', hf', hu⟩ := g
  exact ⟨f' ∘ f, fun r => (hf r).trans (hf' _), by rw [hu, ht, List.map_map]⟩

theorem RecordsCarried.onTruck (s : State) (t : TruckId) {f : Truck → Truck} (h : ∀ r, Carried r (f r)) :
    RecordsCarried s (s.onTruck t f) :=
  ⟨fun r => if r.id = t then f r else r, fun r => by dsimp only; split; exacts [h r, .refl r], rfl⟩

/-- The record of a truck afterwards is its record before, carried over. -/
theorem RecordsCarried.truck? {s t : State} (h : RecordsCarried s t) {x : TruckId} {r : Truck}
    (hr : s.truck? x = some r) : ∃ r', t.truck? x = some r' ∧ Carried r r' := by
  obtain ⟨f, hf, ht⟩ := h
  refine ⟨f r, ?_, hf r⟩
  have hp : ((fun r : Truck => r.id == x) ∘ f) = fun r => r.id == x := by
    funext r; simp [(hf r).id]
  unfold State.truck? at *
  rw [ht, List.find?_map, hp, hr, Option.map_some]

/-! ## The operations a pass is made of (R21, R40, R66) -/

theorem carried_turnAway (s : State) (t : TruckId) : RecordsCarried s (s.turnAway t) :=
  (RecordsCarried.onTruck s t fun r => carried_toIdle (s.classOf t) s.now r).trans (.of_roster (by simp [State.turnAway, State.toIdle]))

theorem carried_enterQueue (s : State) (k : SectionId) (t : TruckId) (rank : Rank) :
    RecordsCarried s (s.enterQueue k t rank) := by
  unfold State.enterQueue
  split
  · exact carried_turnAway s t
  · next q displaced _ =>
    have placed : RecordsCarried s ((s.onQueue k fun _ => q).onTruck t fun r => { r with state := .queued, sec := some k }) :=
      RecordsCarried.onTruck (s.onQueue k fun _ => q) t fun r => carried_place r _ _
    dsimp only
    split
    · exact placed.trans (carried_turnAway _ _)
    · exact placed

theorem carried_toIdleAt (s : State) (t : TruckId) : RecordsCarried s (s.toIdle t) :=
  .onTruck s t fun r => carried_toIdle (s.classOf t) s.now r

theorem carried_shedInto (s : State) (k : SectionId) (t : TruckId) : RecordsCarried s (s.shedInto k t) := by
  have told : RecordsCarried s (((s.endBoost t).sendLower t .shed).raise .shed (.truck t)) :=
    (RecordsCarried.onTruck s t fun r => carried_endBoost (s.classOf t) s.now r).trans (.of_roster (by simp [State.endBoost]))
  unfold State.shedInto
  dsimp only
  split
  · split
    · exact told.trans (carried_toIdleAt _ _)
    · exact told.trans (carried_enterQueue _ _ _ _)
  · exact told

@[simp] theorem stopIdleRestore_roster (s : State) (k : SectionId) : (s.stopIdleRestore k).roster = s.roster := by
  unfold State.stopIdleRestore; split <;> simp

@[simp] theorem leaveHolders_roster (s : State) (k : SectionId) (t : TruckId) (d : Bool) :
    (s.leaveHolders k t d).roster = s.roster := by simp [State.leaveHolders]

@[simp] theorem dropApproach_roster (s : State) (b : BreakId) (t : TruckId) : (s.dropApproach b t).roster = s.roster := rfl

@[simp] theorem refuse_roster (s : State) (b : BreakId) (e : ApproachEntry) (r : LowerReason) :
    (s.refuse b e r).roster = s.roster := by
  unfold State.refuse; dsimp only; split <;> simp

theorem carried_vacate (s : State) (t : TruckId) (d : Bool) : RecordsCarried s (s.vacate t d) := by
  unfold State.vacate
  split
  · exact .of_roster rfl
  · split
    · exact carried_toIdleAt s t
    · exact (RecordsCarried.of_roster (by simp)).trans (carried_toIdleAt _ t)

/-! ## A pass is a chain of moves (R59 to R76) -/

/-- The elementary moves of a pass on a section: a gap grant taken, a reservation refused, its newest holder shed, the head of
its queue admitted, figures of its record set, and telegrams sent. -/
inductive PassMove (k : SectionId) : State → State → Prop
  | takeGap (s : State) (t : TruckId) : PassMove k s (s.takeGap k t)
  | refuse (s : State) (b : BreakId) (e : ApproachEntry) : PassMove k s (s.refuse b e .exit)
  | shed (s : State) (t : TruckId) (h : s.newestSheddable k = some t) : PassMove k s (s.shed k t)
  | takeHead (s : State) (e : QueueEntry) (h : s.queues[k].head? = some e) : PassMove k s (s.takeHead k e.truck)
  | figures (s : State) (f : SectionRecord → SectionRecord)
      (h : ∀ x ∈ (f s.sections[k]).holders, ∃ y ∈ s.sections[k].holders, y.truck = x.truck) :
      PassMove k s (s.onSection k f)
  | send (s t : State) (h : s.sameButLanes t) : PassMove k s t

/-- One state is reached from another by moves of a pass on the section. -/
abbrev PassMoves (k : SectionId) : State → State → Prop := Relation.ReflTransGen (PassMove k)

theorem removeLoad_move {s t : State} {k : SectionId} (h : s.removeLoad k = some t) : PassMove k s t := by
  unfold State.removeLoad at h
  split at h
  · cases h; exact .takeGap s _
  · split at h
    · cases h; exact .refuse s _ _
    · simp only [Option.map_eq_some_iff] at h
      obtain ⟨x, hx, rfl⟩ := h
      exact .shed s x hx

theorem deficitLoop_moves (k : SectionId) (n : Nat) (s : State) : PassMoves k s (deficitLoop k n s) := by
  induction n generalizing s with
  | zero => exact .refl
  | succ n ih =>
    unfold deficitLoop
    split
    · exact .refl
    · split
      · next h => exact .head (removeLoad_move h) (ih _)
      · exact .refl

theorem serviceLoop_moves (k : SectionId) (n : Nat) (s : State) : PassMoves k s (serviceLoop k n s) := by
  induction n generalizing s with
  | zero => exact .refl
  | succ n ih =>
    unfold serviceLoop
    split
    · exact .refl
    · next e he =>
      split
      · exact .head (.takeHead s e he) (ih _)
      · exact .refl

theorem admissionService_moves (k : SectionId) (s : State) : PassMoves k s (s.admissionService k) := by
  unfold State.admissionService
  split
  · exact .refl
  · exact serviceLoop_moves k _ s

/-- Each entry of a list zipped with another by a function that keeps the truck is that of a holder of the list. -/
theorem truck_of_mem_zipWith {α : Type} {f : Holder → α → Holder} (hf : ∀ h a, (f h a).truck = h.truck) (hs : List Holder)
    (as : List α) : ∀ x ∈ List.zipWith f hs as, ∃ y ∈ hs, y.truck = x.truck := by
  intro x hx
  obtain ⟨i, hi, rfl⟩ := List.mem_iff_getElem.mp hx
  rw [List.getElem_zipWith, hf]
  exact ⟨_, List.getElem_mem _, rfl⟩

theorem handOff_move (k : SectionId) (s : State) : PassMove k s (s.handOff k) :=
  .figures s _ (truck_of_mem_zipWith (f := s.retarget) (fun _ _ => rfl) _ _)

theorem clearEntries_move (k : SectionId) (s : State) : PassMove k s (s.clearEntries k) :=
  .figures s _ fun x hx => by
    obtain ⟨y, hy, rfl⟩ := List.mem_map.mp hx
    exact ⟨y, hy, rfl⟩

theorem pass_moves (before s : State) (k : SectionId) (asked : Option TruckId) :
    PassMoves k s (State.pass before s k asked) := by
  unfold State.pass
  split
  · exact (((((deficitLoop_moves k _ s).trans (admissionService_moves k _)).tail (handOff_move k _)).tail
      (.send _ _ (sendGrants_lanesOnly _ _ _ _))).tail (clearEntries_move k _)).tail (.send _ _ (sendLoad_lanesOnly _ _))
  · exact .refl

/-- Whatever every move of a pass keeps, the pass keeps. -/
theorem pass_keeps {P : State → Prop} {k : SectionId} (h : ∀ s t, PassMove k s t → P s → P t) (before : State) {s : State}
    (asked : Option TruckId) (hs : P s) : P (State.pass before s k asked) := by
  have chain : ∀ t, PassMoves k s t → P t := by
    intro t ht
    induction ht with
    | refl => exact hs
    | tail _ hm ih => exact h _ _ hm ih
  exact chain _ (pass_moves before s k asked)

theorem passes_keeps {P : State → Prop} (h : ∀ k s t, PassMove k s t → P s → P t) (before : State) {s : State}
    (ks : List SectionId) (hs : P s) : P (State.passes before s ks) := by
  unfold State.passes
  induction ks generalizing s with
  | nil => exact hs
  | cons k ks ih => exact ih (pass_keeps (h k) before none hs)

theorem passAtTruck_keeps {P : State → Prop} (h : ∀ k s t, PassMove k s t → P s → P t) (before : State) {s : State}
    (t : TruckId) (asked : Option TruckId) (hs : P s) : P (State.passAtTruck before s t asked) := by
  unfold State.passAtTruck
  split
  · split
    · exact pass_keeps (h _) before asked hs
    · exact hs
  · exact hs

/-! ## What a pass does to the records -/

theorem PassMove.carried {k : SectionId} {s t : State} (h : PassMove k s t) : RecordsCarried s t := by
  cases h with
  | takeGap t => exact .of_roster rfl
  | refuse b e => exact .of_roster (by simp)
  | shed t h => exact (RecordsCarried.of_roster (by simp)).trans (carried_shedInto _ k t)
  | takeHead e h => exact (RecordsCarried.of_roster rfl).trans (.onTruck _ e.truck fun r => carried_place r _ r.sec)
  | figures f h => exact .of_roster rfl
  | send _ h => exact .of_roster (by rw [h])

theorem pass_carried (before s : State) (k : SectionId) (asked : Option TruckId) :
    RecordsCarried s (State.pass before s k asked) :=
  pass_keeps (fun _ _ hm hs => hs.trans hm.carried) before asked (.of_roster rfl)

theorem passes_carried (before s : State) (ks : List SectionId) : RecordsCarried s (State.passes before s ks) :=
  passes_keeps (fun _ _ _ hm hs => hs.trans hm.carried) before ks (.of_roster rfl)

theorem passAtTruck_carried (before s : State) (t : TruckId) (asked : Option TruckId) :
    RecordsCarried s (State.passAtTruck before s t asked) :=
  passAtTruck_keeps (fun _ _ _ hm hs => hs.trans hm.carried) before t asked (.of_roster rfl)

theorem release_carried (before s : State) (t : TruckId) (reason : Option LowerReason) (d : Bool) :
    RecordsCarried s (State.release before s t reason d) := by
  unfold State.release
  dsimp only
  refine RecordsCarried.trans ?_ (passes_carried _ _ _)
  split
  · exact (carried_vacate s t d).trans (.of_roster (by simp))
  · exact carried_vacate s t d

/-! ## What a pass does to the event records -/

theorem code_injective {a b : EventKind} (h : a.code = b.code) : a = b := by
  have back : ∀ e : EventKind, allEventKinds[e.code]? = some e := fun e => by cases e <;> rfl
  have hb := back b
  rw [← h, back a] at hb
  exact Option.some.inj hb

/-- Raising a kind leaves the record of every other. -/
theorem raise_events_ne (s : State) {a b : EventKind} (x : Subject) (h : a ≠ b) :
    (s.raise b x).events[a.code] = s.events[a.code] :=
  updateAt_get_ne s.events _ _ _ fun e => h (code_injective e)

theorem raise_events_self (s : State) (a : EventKind) (x : Subject) :
    (s.raise a x).events[a.code] = s.events[a.code].occur x := updateAt_get_self s.events _ _

/-- The kinds that the moves of a pass may raise (R40, R65, R66). -/
def raisedInPass : EventKind → Bool
  | .shed => true
  | .queueFull => true
  | .handoverRefused => true
  | _ => false

/-- Two states have the same record of every kind that a pass does not raise. -/
def OtherEventsSame (s t : State) : Prop := ∀ e : EventKind, raisedInPass e = false → t.events[e.code] = s.events[e.code]

theorem OtherEventsSame.of_events {s t : State} (h : t.events = s.events) : OtherEventsSame s t := fun e _ => by rw [h]

theorem OtherEventsSame.trans {s t u : State} (h : OtherEventsSame s t) (g : OtherEventsSame t u) : OtherEventsSame s u :=
  fun e he => (g e he).trans (h e he)

theorem OtherEventsSame.raise (s : State) {a : EventKind} (h : raisedInPass a = true) (x : Subject) :
    OtherEventsSame s (s.raise a x) :=
  fun e he => raise_events_ne s x fun heq => by rw [heq, h] at he; cases he

theorem events_turnAway (s : State) (t : TruckId) : OtherEventsSame s (s.turnAway t) :=
  (OtherEventsSame.of_events (by simp [State.toIdle])).trans (.raise ((s.toIdle t).sendLower t .queueFull) rfl _)

theorem events_enterQueue (s : State) (k : SectionId) (t : TruckId) (rank : Rank) :
    OtherEventsSame s (s.enterQueue k t rank) := by
  unfold State.enterQueue
  split
  · exact events_turnAway s t
  · dsimp only
    split
    · exact (OtherEventsSame.of_events rfl).trans (events_turnAway _ _)
    · exact .of_events rfl

theorem events_shedInto (s : State) (k : SectionId) (t : TruckId) : OtherEventsSame s (s.shedInto k t) := by
  have told : OtherEventsSame s (((s.endBoost t).sendLower t .shed).raise .shed (.truck t)) :=
    (OtherEventsSame.of_events (by simp [State.endBoost])).trans (.raise ((s.endBoost t).sendLower t .shed) rfl _)
  unfold State.shedInto
  dsimp only
  split
  · split
    · exact told.trans (.of_events rfl)
    · exact told.trans (events_enterQueue _ _ _ _)
  · exact told

@[simp] theorem stopIdleRestore_events (s : State) (k : SectionId) : (s.stopIdleRestore k).events = s.events := by
  unfold State.stopIdleRestore; split <;> simp

@[simp] theorem leaveHolders_events (s : State) (k : SectionId) (t : TruckId) (d : Bool) :
    (s.leaveHolders k t d).events = s.events := by simp [State.leaveHolders]

theorem events_refuse (s : State) (b : BreakId) (e : ApproachEntry) (r : LowerReason) :
    OtherEventsSame s (s.refuse b e r) := by
  have refused : (s.refuse b e r).events = (s.raise .handoverRefused (.brk b)).events := by
    unfold State.refuse; dsimp only; split <;> simp
  exact (OtherEventsSame.raise s rfl _).trans (.of_events refused)

theorem PassMove.events {k : SectionId} {s t : State} (h : PassMove k s t) : OtherEventsSame s t := by
  cases h with
  | takeGap t => exact .of_events rfl
  | refuse b e => exact events_refuse s b e .exit
  | shed t h => exact (OtherEventsSame.of_events (by simp)).trans (events_shedInto _ k t)
  | takeHead e h => exact .of_events rfl
  | figures f h => exact .of_events rfl
  | send _ h => exact .of_events (by rw [h])

theorem passes_events (before s : State) (ks : List SectionId) : OtherEventsSame s (State.passes before s ks) :=
  passes_keeps (fun _ _ _ hm hs => hs.trans hm.events) before ks (.of_events rfl)

theorem passAtTruck_events (before s : State) (t : TruckId) (asked : Option TruckId) :
    OtherEventsSame s (State.passAtTruck before s t asked) :=
  passAtTruck_keeps (fun _ _ _ hm hs => hs.trans hm.events) before t asked (.of_events rfl)

@[simp] theorem vacate_events (s : State) (t : TruckId) (d : Bool) : (s.vacate t d).events = s.events := by
  unfold State.vacate
  split
  · rfl
  · split <;> simp [State.toIdle, State.dropApproach]

theorem release_events (before s : State) (t : TruckId) (reason : Option LowerReason) (d : Bool) :
    OtherEventsSame s (State.release before s t reason d) := by
  unfold State.release
  dsimp only
  refine OtherEventsSame.trans (.of_events ?_) (passes_events _ _ _)
  split <;> simp

/-! ## Trucks that a pass leaves alone -/

/-- The truck stands in this section's queue. -/
def QueuedAt (s : State) (t : TruckId) (k : SectionId) : Prop := ∃ e ∈ s.queues[k], e.truck = t

/-- The truck stands on this section's holder list. -/
def HeldAt (s : State) (t : TruckId) (k : SectionId) : Prop := ∃ h ∈ s.sections[k].holders, h.truck = t

/-- The truck has an entry at this break. -/
def CrossingAt (s : State) (t : TruckId) (b : BreakId) : Prop := ∃ e ∈ s.breaks[b].approaches, e.truck = t

/-- The truck's record is the same afterwards, and the truck stands nowhere where it did not stand before. -/
structure Spares (t : TruckId) (s s' : State) : Prop where
  record : s'.truck? t = s.truck? t
  queued : ∀ j, QueuedAt s' t j → QueuedAt s t j
  held : ∀ j, HeldAt s' t j → HeldAt s t j
  crossing : ∀ b, CrossingAt s' t b → CrossingAt s t b

theorem Spares.of_record {t : TruckId} {s s' : State} (hr : s'.truck? t = s.truck? t) (hq : s'.queues = s.queues)
    (hs : s'.sections = s.sections) (hb : s'.breaks = s.breaks) : Spares t s s' :=
  ⟨hr, fun j h => by unfold QueuedAt at *; rwa [hq] at h, fun j h => by unfold HeldAt at *; rwa [hs] at h,
    fun b h => by unfold CrossingAt at *; rwa [hb] at h⟩

theorem Spares.of_lanes {t : TruckId} {s s' : State} (h : s.sameButLanes s') : Spares t s s' := by
  rw [h]; exact .of_record rfl rfl rfl rfl

theorem Spares.trans {t : TruckId} {s s' s'' : State} (h : Spares t s s') (g : Spares t s' s'') : Spares t s s'' :=
  ⟨g.record.trans h.record, fun j a => h.queued j (g.queued j a), fun j a => h.held j (g.held j a),
    fun b a => h.crossing b (g.crossing b a)⟩

/-- A change of one queue that brings no entry of the truck in. -/
theorem Spares.onQueue {t : TruckId} (s : State) (k : SectionId) (f : List QueueEntry → List QueueEntry)
    (h : ∀ e ∈ f s.queues[k], e.truck = t → QueuedAt s t k) : Spares t s (s.onQueue k f) where
  record := rfl
  queued := fun j ⟨e, he, ht⟩ => by
    rw [State.onQueue_queues, updateAt_get] at he
    split at he
    · next hj => subst hj; exact h e he ht
    · exact ⟨e, he, ht⟩
  held := fun _ a => a
  crossing := fun _ a => a

/-- A change of one section that brings no entry of the truck onto the holder list. -/
theorem Spares.onSection {t : TruckId} (s : State) (k : SectionId) (f : SectionRecord → SectionRecord)
    (h : ∀ x ∈ (f s.sections[k]).holders, x.truck = t → HeldAt s t k) : Spares t s (s.onSection k f) where
  record := rfl
  queued := fun _ a => a
  held := fun j ⟨x, hx, ht⟩ => by
    rw [State.onSection_sections, updateAt_get] at hx
    split at hx
    · next hj => subst hj; exact h x hx ht
    · exact ⟨x, hx, ht⟩
  crossing := fun _ a => a

/-- A change of one break that brings no entry of the truck in. -/
theorem Spares.onBreak {t : TruckId} (s : State) (b : BreakId) (f : BreakRecord → BreakRecord)
    (h : ∀ e ∈ (f s.breaks[b]).approaches, e.truck = t → CrossingAt s t b) : Spares t s (s.onBreak b f) where
  record := rfl
  queued := fun _ a => a
  held := fun _ a => a
  crossing := fun c ⟨e, he, ht⟩ => by
    rw [State.onBreak_breaks, updateAt_get] at he
    split at he
    · next hc => subst hc; exact h e he ht
    · exact ⟨e, he, ht⟩

/-- A change of the records of a break's entries in place. -/
theorem Spares.mapApproaches {t : TruckId} (s : State) (b : BreakId) {f : ApproachEntry → ApproachEntry}
    (hf : ∀ e, (f e).truck = e.truck) :
    Spares t s (s.onBreak b fun r => { r with approaches := r.approaches.map f }) :=
  .onBreak s b _ fun x hx ht => by
    obtain ⟨y, hy, rfl⟩ := List.mem_map.mp hx
    exact ⟨y, hy, (hf y).symm.trans ht⟩

theorem Spares.onTruck {t x : TruckId} (s : State) {f : Truck → Truck} (hf : ∀ r : Truck, (f r).id = r.id)
    (h : t ≠ x) : Spares t s (s.onTruck x f) :=
  .of_record (truck?_onTruck_ne s hf h) rfl rfl rfl

theorem Spares.raise {t : TruckId} (s : State) (e : EventKind) (x : Subject) : Spares t s (s.raise e x) :=
  .of_record rfl rfl rfl rfl

theorem Spares.turnAway {t x : TruckId} (s : State) (h : t ≠ x) : Spares t s (s.turnAway x) :=
  ((Spares.onTruck s (toIdle_id _ _) h).trans (.of_lanes (sendLower_lanesOnly (s.toIdle x) x .queueFull none false))).trans
    (.raise _ _ _)

/-- The queue after an arrival holds the arriving truck and entries it held before. -/
theorem mem_of_arrival {q q' : List QueueEntry} {e : QueueEntry} {d : Option QueueEntry} (h : arrival q e = some (q', d)) :
    (∀ x ∈ q', x = e ∨ x ∈ q) ∧ ∀ x, d = some x → x ∈ q := by
  unfold arrival at h
  split at h
  · cases h
    exact ⟨fun x hx => mem_placeEntry.mp hx, fun x hx => by cases hx⟩
  · split at h
    · cases h
      exact ⟨fun x hx => (mem_placeEntry.mp hx).imp id List.mem_of_mem_dropLast, fun x hx => List.mem_of_getLast? hx⟩
    · cases h

/-- Another truck enters a queue: one that stands in no queue is left alone, since only an entry of the queue is displaced. -/
theorem Spares.enterQueue {t x : TruckId} (s : State) (k : SectionId) (rank : Rank) (h : t ≠ x) (hq : ¬ QueuedAt s t k) :
    Spares t s (s.enterQueue k x rank) := by
  unfold State.enterQueue
  split
  · exact .turnAway s h
  · next q displaced ha =>
    obtain ⟨hnew, hgone⟩ := mem_of_arrival ha
    have placed : Spares t s ((s.onQueue k fun _ => q).onTruck x fun r => { r with state := .queued, sec := some k }) := by
      refine .trans (.onQueue s k _ fun e he ht => ?_) (.onTruck _ (fun _ => rfl) h)
      rcases hnew e he with rfl | he
      · exact absurd ht.symm h
      · exact ⟨e, he, ht⟩
    dsimp only
    split
    · next e => exact placed.trans (.turnAway _ fun ht => hq ⟨e, hgone e rfl, ht.symm⟩)
    · exact placed

theorem Spares.stopIdleRestore {t : TruckId} (s : State) (k : SectionId) : Spares t s (s.stopIdleRestore k) := by
  unfold State.stopIdleRestore
  split
  · exact .of_record rfl rfl rfl rfl
  · exact .of_record rfl rfl rfl rfl

theorem Spares.leaveHolders {t : TruckId} (s : State) (k : SectionId) (x : TruckId) (d : Bool) :
    Spares t s (s.leaveHolders k x d) :=
  (Spares.onSection s k _ fun h hh ht => ⟨h, (List.mem_filter.mp hh).1, ht⟩).trans (.stopIdleRestore _ k)

theorem Spares.told {t x : TruckId} (s : State) (h : t ≠ x) :
    Spares t s (((s.endBoost x).sendLower x .shed).raise .shed (.truck x)) :=
  ((Spares.onTruck s (endBoost_id _ _) h).trans (.of_lanes (sendLower_lanesOnly (s.endBoost x) x .shed none false))).trans
    (.raise _ _ _)

theorem Spares.shedInto {t x : TruckId} (s : State) (k : SectionId) (h : t ≠ x) (hq : ¬ QueuedAt s t k) :
    Spares t s (s.shedInto k x) := by
  have told := Spares.told s h
  unfold State.shedInto
  dsimp only
  split
  · split
    · exact told.trans (.onTruck _ (toIdle_id _ _) h)
    · exact told.trans (.enterQueue _ k .shed h fun hk => hq (told.queued k hk))
  · exact told

theorem Spares.shed {t x : TruckId} (s : State) (k : SectionId) (h : t ≠ x) (hq : ¬ QueuedAt s t k) :
    Spares t s (s.shed k x) :=
  have gone := Spares.leaveHolders s k x true
  gone.trans (.shedInto _ k h fun hk => hq (gone.queued k hk))

theorem Spares.takeHead {t : TruckId} {s : State} {k : SectionId} {e : QueueEntry} (he : s.queues[k].head? = some e)
    (hq : ¬ QueuedAt s t k) : Spares t s (s.takeHead k e.truck) := by
  have hne : t ≠ e.truck := fun ht => hq ⟨e, List.mem_of_head? he, ht.symm⟩
  refine .trans (.trans (.onQueue s k _ fun x hx ht => ⟨x, List.mem_of_mem_tail hx, ht⟩)
    (.onSection _ k _ fun x hx ht => ?_)) (.onTruck _ (fun _ => rfl) hne)
  rcases List.mem_append.mp hx with hx | hx
  · exact ⟨x, hx, ht⟩
  · rw [List.mem_singleton.mp hx] at ht
    exact absurd ht.symm hne

/-- A holder that the deficit check may shed is an ordinary or SUSPENDED one. -/
theorem newestSheddable_spec {s : State} {k : SectionId} {t : TruckId} (h : s.newestSheddable k = some t) :
    HeldAt s t k ∧ s.countsFloor t = true := by
  unfold State.newestSheddable at h
  simp only [Option.map_eq_some_iff] at h
  obtain ⟨x, hx, rfl⟩ := h
  have counted := List.find?_some hx
  exact ⟨⟨x, List.mem_reverse.mp (List.mem_of_find?_eq_some hx), rfl⟩, counted⟩

/-- A truck that stands in no queue is left alone by every move of a pass but its own shedding. -/
theorem PassMove.spares {k : SectionId} {s s' : State} (h : PassMove k s s') {t : TruckId} (hq : ¬ QueuedAt s t k) :
    Spares t s s' ∨ s.countsFloor t = true ∧ s' = s.shed k t := by
  cases h with
  | takeGap x => exact .inl (.mapApproaches s k fun e => by split <;> rfl)
  | refuse b e =>
    left
    have turned : Spares t s ((s.onBreak b fun r => { r with
        approaches := r.approaches.map fun x => if x.truck = e.truck then { x with kind := .exit } else x }).raise
          .handoverRefused (.brk b)) :=
      .trans (.mapApproaches s b fun x => by split <;> rfl) (.raise _ _ _)
    unfold State.refuse
    dsimp only
    split
    · exact turned.trans (.of_lanes (sendLower_lanesOnly _ _ _ _ _))
    · exact turned
  | shed x h =>
    by_cases hx : t = x
    · subst hx; exact .inr ⟨(newestSheddable_spec h).2, rfl⟩
    · exact .inl (.shed s k hx hq)
  | takeHead e h => exact .inl (.takeHead h hq)
  | figures f h =>
    refine .inl (.onSection s k f fun x hx ht => ?_)
    obtain ⟨y, hy, hyx⟩ := h x hx
    exact ⟨y, hy, hyx.trans ht⟩
  | send _ h => exact .inl (.of_lanes h)

/-! ### IDLE trucks -/

theorem countsFloor_of_idle {s : State} {t : TruckId} (h : s.truckState t = .idle) : s.countsFloor t = false := by
  simp [State.countsFloor, State.isOrdinary, State.isSuspended, h]

/-- Passes leave an IDLE truck that stands in no queue alone. -/
theorem passes_spare_idle (before : State) {s : State} {t : TruckId} (ks : List SectionId) (hi : s.truckState t = .idle)
    (hq : ∀ j, ¬ QueuedAt s t j) : Spares t s (State.passes before s ks) := by
  refine passes_keeps (P := fun x => Spares t s x) (fun k x y hm hx => ?_) before ks (.of_record rfl rfl rfl rfl)
  have hidle : x.countsFloor t = false := countsFloor_of_idle (by unfold State.truckState; rw [hx.record]; exact hi)
  rcases hm.spares fun hk => hq k (hx.queued k hk) with h | ⟨hc, -⟩
  · exact hx.trans h
  · rw [hidle] at hc; cases hc

end Sys2Proof.Machine.TruckRoster
end

section
/-! PROOFS. Releases and the truck timers (R21, R28, R30 to R36). -/

namespace Sys2Proof.Machine.TruckRoster

/-! ## The end of an event -/

theorem Spares.finish {t : TruckId} (before s : State) : Spares t s (State.finish before s) where
  record := truck?_of_roster (State.finish_roster before s) t
  queued := fun j ⟨e, he, ht⟩ => by
    have mem : t ∈ (toldFrom 1 s.queues[j]).map (fun e => e.truck) := by
      rw [State.finish_queues] at he
      simp only [Fin.getElem_fin, Vector.getElem_map] at he
      exact List.mem_map.mpr ⟨e, he, ht⟩
    rw [toldFrom_trucks] at mem
    obtain ⟨e', he', ht'⟩ := List.mem_map.mp mem
    exact ⟨e', he', ht'⟩
  held := fun j a => by unfold HeldAt at *; rwa [State.finish_sections] at a
  crossing := fun b a => by unfold CrossingAt at *; rwa [State.finish_breaks] at a

/-! ## Releases (R21) -/

/-- A record as a release leaves it (R21 steps 4 and 5). -/
structure IdleRecord (r : Truck) : Prop where
  state : r.state = .idle
  sec : r.sec = none
  waiting : r.waiting = none
  silent : r.silent = false
  boost : r.boost.isActive = false

theorem boostAfterEnd_inactive (c : ClassRecord) (now : Time) : (boostAfterEnd c now).isActive = false := by
  unfold boostAfterEnd; split <;> rfl

theorem endBoost_inactive (c : ClassRecord) (now : Time) (r : Truck) : (r.endBoost c now).boost.isActive = false := by
  unfold Truck.endBoost
  split
  · exact boostAfterEnd_inactive c now
  · next h => exact Bool.eq_false_iff.mpr h

theorem idleRecord_toIdle (c : ClassRecord) (now : Time) (r : Truck) : IdleRecord (r.toIdle c now) :=
  ⟨rfl, rfl, rfl, rfl, endBoost_inactive c now r⟩

/-- A truck with record `r` has been released from section `k`: its record is IDLE, and it stands in no queue, not on the
section's holder list and not at the break above it. -/
structure Released (r : Truck) (t : TruckId) (k : SectionId) (s : State) : Prop where
  record : ∃ r', s.truck? t = some r' ∧ Carried r r' ∧ IdleRecord r'
  unqueued : ∀ j, ¬ QueuedAt s t j
  unheld : ¬ HeldAt s t k
  uncrossed : ¬ CrossingAt s t k

theorem Released.spares {r : Truck} {t : TruckId} {k : SectionId} {s s' : State} (h : Released r t k s)
    (g : Spares t s s') : Released r t k s' :=
  ⟨by rw [g.record]; exact h.record, fun j a => h.unqueued j (g.queued j a), fun a => h.unheld (g.held k a),
    fun a => h.uncrossed (g.crossing k a)⟩

theorem Released.truckState {r : Truck} {t : TruckId} {k : SectionId} {s : State} (h : Released r t k s) :
    s.truckState t = .idle := by
  obtain ⟨r', hr', -, hidle⟩ := h.record
  rw [truckState_of_some hr', hidle.state]

theorem Released.entryOf {r : Truck} {t : TruckId} {k : SectionId} {s : State} (h : Released r t k s) :
    entryOf s.breaks[k].approaches t = none := by
  unfold Machine.entryOf
  simp only [List.find?_eq_none, beq_iff_eq]
  exact fun e he ht => h.uncrossed ⟨e, he, ht⟩

theorem not_queuedAt_removed {s : State} {t : TruckId} {k : SectionId} (hq : s.queuedOnlyAt t k) (j : SectionId) :
    ¬ QueuedAt (s.onQueue k fun q => q.filter fun e => e.truck ≠ t) t j := by
  rintro ⟨e, he, ht⟩
  rw [State.onQueue_queues, updateAt_get] at he
  split at he
  · exact of_decide_eq_true (List.mem_filter.mp he).2 ht
  · next hj => exact hj (hq j ⟨e, he, ht⟩)

theorem not_crossingAt_dropApproach (s : State) (t : TruckId) (k : SectionId) : ¬ CrossingAt (s.dropApproach k t) t k := by
  rintro ⟨e, he, ht⟩
  rw [State.dropApproach, State.onBreak_breaks, updateAt_get_self] at he
  exact of_decide_eq_true (List.mem_filter.mp he).2 ht

theorem not_heldAt_leaveHolders (s : State) (t : TruckId) (k : SectionId) (d : Bool) :
    ¬ HeldAt (s.leaveHolders k t d) t k := by
  intro a
  obtain ⟨h, hh, ht⟩ := (Spares.stopIdleRestore _ k).held k a
  rw [State.onSection_sections, updateAt_get_self] at hh
  exact of_decide_eq_true (List.mem_filter.mp hh).2 ht

theorem vacate_released {s : State} {t : TruckId} {r : Truck} {k : SectionId} (hr : s.truck? t = some r)
    (hk : r.sec = some k) (hq : s.queuedOnlyAt t k) (d : Bool) : Released r t k (s.vacate t d) := by
  let u1 := s.onQueue k fun q => q.filter fun e => e.truck ≠ t
  let u2 := u1.dropApproach k t
  let u3 := u2.leaveHolders k t d
  have eq : s.vacate t d = u3.toIdle t := by
    unfold State.vacate
    rw [hr]
    dsimp only
    rw [hk]
  have dropped : Spares t u1 u2 := .onBreak u1 k _ fun e he ht => ⟨e, (List.mem_filter.mp he).1, ht⟩
  have left : Spares t u2 u3 := .leaveHolders u2 k t d
  have hr3 : u3.truck? t = some r := (left.record.trans dropped.record).trans hr
  rw [eq]
  exact
    { record := ⟨_, truck?_onTruck_self (toIdle_id _ _) hr3, carried_toIdle _ _ r, idleRecord_toIdle _ _ r⟩
      unqueued := fun j a => not_queuedAt_removed hq j (dropped.queued j (left.queued j a))
      unheld := not_heldAt_leaveHolders u2 t k d
      uncrossed := fun a => not_crossingAt_dropApproach u1 t k (left.crossing k a) }

/-- A truck that is released stands nowhere afterwards, and the passes of its release leave it so (R21). -/
theorem release_released (before : State) {s : State} {t : TruckId} {r : Truck} {k : SectionId} (hr : s.truck? t = some r)
    (hk : r.sec = some k) (hq : s.queuedOnlyAt t k) (reason : Option LowerReason) (d : Bool) :
    Released r t k (State.release before s t reason d) := by
  have vacated := vacate_released hr hk hq d
  unfold State.release
  dsimp only
  split
  · next reason =>
    have told := vacated.spares (.of_lanes (sendLower_lanesOnly _ t reason none false))
    exact told.spares (passes_spare_idle before _ told.truckState told.unqueued)
  · exact vacated.spares (passes_spare_idle before _ vacated.truckState vacated.unqueued)

/-! ## Commands of a running part -/

theorem whileRunning_of {s : State} (h : s.running = true) (f : State → State) : whileRunning s f = .next (f s) := by
  simp [whileRunning, h]

/-! ## The truck timers (R31, R33, R34, R36) -/

theorem demandIntervalEnd_eq {s : State} {t : TruckId} {r : Truck} (hs : s.running = true) (hr : s.truck? t = some r)
    (hd : s.demandDue r = true) :
    exec (.demandIntervalEnd t) s = .next (State.finish s (State.applyWaiting s s r)) := by
  simp [exec, execDemandIntervalEnd, whileRunning_of hs, hr, hd]

theorem boostExpiry_eq {s : State} {t : TruckId} {r : Truck} (hs : s.running = true) (hr : s.truck? t = some r)
    (hd : s.boostOver r = true) :
    exec (.boostExpiry t) s = .next (State.finish s
      (if r.state.onHolderList then State.passAtTruck s ((s.endBoost t).raise .boostExpired (.truck t)) t
       else (s.endBoost t).raise .boostExpired (.truck t))) := by
  simp [exec, execBoostExpiry, whileRunning_of hs, hr, hd]

theorem cooldownEnd_eq {s : State} {t : TruckId} {r : Truck} (hs : s.running = true) (hr : s.truck? t = some r)
    (hd : s.cooldownOver r = true) :
    exec (.cooldownEnd t) s = .next (s.onTruck t fun x => { x with boost := .none }) := by
  simp [exec, execCooldownEnd, whileRunning_of hs, hr, hd]

theorem silenceLimitExpiry_eq {s : State} {t : TruckId} {r : Truck} (hs : s.running = true) (hr : s.truck? t = some r)
    (hd : s.silenceDue r = true) :
    exec (.silenceLimitExpiry t) s = .next (State.finish s (State.fallSilent s s r)) := by
  simp [exec, execSilenceLimitExpiry, whileRunning_of hs, hr, hd]

theorem abandonment_eq {s : State} {t : TruckId} {r : Truck} (hs : s.running = true) (hr : s.truck? t = some r)
    (hd : s.abandonDue r = true) :
    exec (.abandonment t) s = .next (State.finish s (State.abandon s s t)) := by
  simp [exec, execAbandonment, whileRunning_of hs, hr, hd]

theorem recordDemand_truck? {s : State} {t : TruckId} {r : Truck} (hr : s.truck? t = some r) (amps : Amps) (flag : Bool) :
    (s.recordDemand t amps flag).truck? t
      = some (r.apply s.settings.classes[r.cls] s.now (s.mayBoost r) amps flag) := by
  unfold State.recordDemand
  rw [hr]
  exact truck?_onTruck_self (fun _ => rfl) hr

/-- The record of a truck whose demand has been applied: the demand as applied, carried through the pass (R30). -/
theorem applyDemand_record (before : State) {s : State} {t : TruckId} {r : Truck} (hr : s.truck? t = some r) (amps : Amps)
    (flag : Bool) (asked : Option TruckId) :
    ∃ r', (State.applyDemand before s t amps flag asked).truck? t = some r'
      ∧ Carried (r.apply s.settings.classes[r.cls] s.now (s.mayBoost r) amps flag) r' :=
  (passAtTruck_carried before (s.recordDemand t amps flag) t asked).truck? (recordDemand_truck? hr amps flag)

theorem finish_truck? (before s : State) (t : TruckId) : (State.finish before s).truck? t = s.truck? t :=
  truck?_of_roster (State.finish_roster before s) t

/-- Settles O21: the pending demand is applied to the record, and the pass of the application carries the record over. -/
theorem pendingDemandIsApplied : Obligations.PendingDemandIsApplied := by
  unfold Obligations.PendingDemandIsApplied
  intro s t r p hs hr hw hsilent hover
  have hdue : s.demandDue r = true := by simp [State.demandDue, hw, hsilent, hover]
  have applied : State.applyWaiting s s r = State.applyDemand s s t p.amps p.boost none := by
    simp [State.applyWaiting, hw, hover, truck?_id hr]
  obtain ⟨r', hr', kept⟩ := applyDemand_record s hr p.amps p.boost none
  refine ⟨_, r', demandIntervalEnd_eq hs hr hdue, ?_, kept.requested, ?_, kept.lastApplication, kept.cls,
    kept.lastHeard, kept.slot⟩
  · rw [finish_truck?, applied, hr']
  · exact kept.waiting.elim id id

/-- The record of a truck whose boost is ACTIVE, once it ends (R33). -/
theorem endBoost_of_active {c : ClassRecord} {now ends : Time} {r : Truck} (h : r.boost = .active ends) :
    r.endBoost c now = { r with
      boost := boostAfterEnd c now
      applied := clampTo c.floor c.ceiling r.requested } := by
  have active : r.boost.isActive = true := by rw [h]; rfl
  simp [Truck.endBoost, active, Truck.reclamp, appliedDemand, boostAfterEnd_inactive]

theorem classOf_of_some {s : State} {t : TruckId} {r : Truck} (h : s.truck? t = some r) :
    s.classOf t = s.settings.classes[r.cls] := by
  simp [State.classOf, h]

/-- Settles O22: the boost end is done on the record before the pass, which leaves a boost that is not ACTIVE and raises other
kinds of event only. -/
theorem boostAndCooldownEnd : Obligations.BoostAndCooldownEnd := by
  unfold Obligations.BoostAndCooldownEnd
  refine ⟨fun s t r ends hs hr hb hends => ?_, fun s t r ends hs hr hb hends => ?_⟩
  · let s1 := (s.endBoost t).raise .boostExpired (.truck t)
    have hended : s1.truck? t = some (r.endBoost (s.classOf t) s.now) := truck?_onTruck_self (endBoost_id _ _) hr
    have hclass := classOf_of_some hr
    have after : ∀ s2 : State, RecordsCarried s1 s2 → OtherEventsSame s1 s2 →
        ∃ r', (State.finish s s2).truck? t = some r'
          ∧ r'.boost = boostAfterEnd s.settings.classes[r.cls] s.now
          ∧ r'.requested = r.requested
          ∧ r'.applied = clampTo s.settings.classes[r.cls].floor s.settings.classes[r.cls].ceiling r.requested
          ∧ (State.finish s s2).events[EventKind.boostExpired.code]
              = s.events[EventKind.boostExpired.code].occur (.truck t) := by
      intro s2 hc he
      obtain ⟨r', hr', kept⟩ := hc.truck? hended
      obtain ⟨hboost, happlied⟩ := kept.boost (endBoost_inactive _ _ r)
      have hreq := kept.requested
      rw [endBoost_of_active hb, hclass] at hboost happlied hreq
      refine ⟨r', (finish_truck? s s2 t).trans hr', hboost, hreq, happlied, ?_⟩
      rw [State.finish_events, he .boostExpired rfl]
      exact raise_events_self (s.endBoost t) .boostExpired (.truck t)
    rw [boostExpiry_eq hs hr (by simp [State.boostOver, hb, hends])]
    split
    · obtain ⟨r', h⟩ := after _ (passAtTruck_carried s s1 t none) (passAtTruck_events s s1 t none)
      exact ⟨_, r', rfl, h⟩
    · obtain ⟨r', h⟩ := after s1 (.of_roster rfl) (.of_events rfl)
      exact ⟨_, r', rfl, h⟩
  · exact cooldownEnd_eq hs hr (by simp [State.cooldownOver, hb, hends])

/-! ## Silence and abandonment (R34, R36) -/

theorem silenceDue_of {s : State} {r : Truck} {heard : Time} (hidle : r.state ≠ .idle) (hsilent : r.silent = false)
    (hheard : r.lastHeard = some heard) (hpast : heard + s.settings.silenceLimit ≤ s.now) : s.silenceDue r = true := by
  simp [State.silenceDue, hidle, hsilent, hheard, elapsed, hpast]

/-- What holds of a truck marked silent and in no queue while a pass runs: it is still silent, or it has been released to
IDLE, and it stands in no queue (R34, R66). -/
def SilentOrIdle (t : TruckId) (s : State) : Prop :=
  (∀ j, ¬ QueuedAt s t j) ∧ ∃ r, s.truck? t = some r ∧ (r.silent = true ∨ r.state = .idle)

theorem SilentOrIdle.spares {t : TruckId} {s s' : State} (h : SilentOrIdle t s) (g : Spares t s s') : SilentOrIdle t s' :=
  ⟨fun j a => h.1 j (g.queued j a), by rw [g.record]; exact h.2⟩

/-- A silent truck that is shed is released to IDLE and enters no queue (R66). -/
theorem shed_silent {s : State} {t : TruckId} {r : Truck} (k : SectionId) (hr : s.truck? t = some r) (hsilent : r.silent = true)
    (hq : ∀ j, ¬ QueuedAt s t j) : SilentOrIdle t (s.shed k t) := by
  have gone := Spares.leaveHolders (t := t) s k t true
  have hr1 : (s.leaveHolders k t true).truck? t = some r := gone.record.trans hr
  let s1 := s.leaveHolders k t true
  let s2 := ((s1.endBoost t).sendLower t .shed).raise .shed (.truck t)
  have hr2 : s2.truck? t = some (r.endBoost (s1.classOf t) s1.now) :=
    (truck?_of_roster (s := s1.endBoost t) ((State.raise_roster _ _ _).trans (State.sendLower_roster _ _ _ _ _)) t).trans
      (truck?_onTruck_self (endBoost_id _ _) hr1)
  have shedEq : s.shed k t = s2.toIdle t := by
    simp only [State.shed, State.shedInto, hr1, hsilent, if_true]
    rfl
  rw [shedEq]
  refine ⟨fun j a => hq j (gone.queued j ?_), _, truck?_onTruck_self (toIdle_id _ _) hr2, .inr rfl⟩
  obtain ⟨e, he, ht⟩ := a
  exact ⟨e, by simpa [s2, State.toIdle, State.endBoost] using he, ht⟩

theorem SilentOrIdle.move {t : TruckId} {k : SectionId} {s s' : State} (hm : PassMove k s s') (h : SilentOrIdle t s) :
    SilentOrIdle t s' := by
  rcases hm.spares (h.1 k) with spared | ⟨hcounts, rfl⟩
  · exact h.spares spared
  · obtain ⟨hq, r, hr, hsilent | hidle⟩ := h
    · exact shed_silent k hr hsilent hq
    · rw [countsFloor_of_idle ((truckState_of_some hr).trans hidle)] at hcounts
      cases hcounts

/-- A truck released with `r` its record, of which TRUCK_ABANDONED is raised (R36). -/
theorem abandon_spec (before : State) {s : State} {t : TruckId} {r : Truck} {k : SectionId} (hr : s.truck? t = some r)
    (hk : r.sec = some k) (hq : s.queuedOnlyAt t k) :
    Released r t k (State.abandon before s t)
      ∧ (State.abandon before s t).events[EventKind.truckAbandoned.code]
          = s.events[EventKind.truckAbandoned.code].occur (.truck t)
      ∧ ∀ e, e ≠ .truckAbandoned → raisedInPass e = false →
          (State.abandon before s t).events[e.code] = s.events[e.code] := by
  have kept := release_events before s t (some .released) true
  refine ⟨(release_released before hr hk hq _ _).spares (.raise _ _ _), ?_, fun e he hp => ?_⟩
  · exact (raise_events_self _ _ _).trans (by rw [kept .truckAbandoned rfl])
  · exact (raise_events_ne _ _ he).trans (kept e hp)

/-- Settles O24. -/
theorem abandonmentReleasesTruck : Obligations.AbandonmentReleasesTruck := by
  unfold Obligations.AbandonmentReleasesTruck
  intro s t r k heard hs hr hsilent hk hq hheard hpast
  have hdue : s.abandonDue r = true := by simp [State.abandonDue, hsilent, hheard, elapsed, hpast]
  obtain ⟨released, raised, -⟩ := abandon_spec s hr hk hq
  have done := released.spares (.finish s _)
  refine ⟨_, abandonment_eq hs hr hdue, done.truckState, fun h hh ht => done.unheld ⟨h, hh, ht⟩, done.entryOf, ?_⟩
  rw [State.finish_events]
  exact raised

/-- The state in which a truck with this record has been marked silent (R34). -/
def markedSilent (s : State) (r : Truck) : State :=
  (s.onTruck r.id fun x => { x with silent := true }).raise .truckSilent (.truck r.id)

theorem fallSilent_queued (before s : State) {r : Truck} (h : r.state = .queued) :
    State.fallSilent before s r = State.release before s r.id (some .released) true := by
  simp [State.fallSilent, h]

theorem fallSilent_other (before s : State) {r : Truck} (h : r.state ≠ .queued) :
    State.fallSilent before s r =
      if (markedSilent s r).abandonDue { r with silent := true } then State.abandon before (markedSilent s r) r.id
      else State.passAtTruck before (markedSilent s r) r.id := by
  unfold State.fallSilent
  split
  · contradiction
  · rfl

theorem markedSilent_truck? {s : State} {t : TruckId} {r : Truck} (hr : s.truck? t = some r) :
    (markedSilent s r).truck? t = some { r with silent := true } := by
  have marked : markedSilent s r = (s.onTruck t fun x => { x with silent := true }).raise .truckSilent (.truck t) := by
    unfold markedSilent; rw [truck?_id hr]
  rw [marked]
  exact truck?_onTruck_self (f := fun x => { x with silent := true }) (fun _ => rfl) hr

/-- Settles O23: by cases on whether the truck is queued, and whether its abandon limit has passed too. -/
theorem silenceMarksTruck : Obligations.SilenceMarksTruck := by
  unfold Obligations.SilenceMarksTruck
  refine ⟨fun s t r heard hs hr hidle hqueued hq hsilent hheard hpast hwithin => ?_,
    fun s t r k heard hs hr hqueued hk hq hsilent hheard hpast => ?_,
    fun s t r k heard hs hr hidle hqueued hk hq hsilent hheard hpast habandon => ?_⟩
  · have hid := truck?_id hr
    have notDue : (markedSilent s r).abandonDue { r with silent := true } = false := by
      simp [State.abandonDue, hheard, elapsed, markedSilent, Nat.not_le.mpr hwithin]
    have hmarked := markedSilent_truck? hr
    have fell : State.fallSilent s s r = State.passAtTruck s (markedSilent s r) t := by
      rw [fallSilent_other s s hqueued, notDue, hid]; rfl
    have begun : SilentOrIdle t (markedSilent s r) := ⟨fun j ⟨e, he, ht⟩ => hq j e he ht, _, hmarked, .inl rfl⟩
    obtain ⟨-, r', hr', marked⟩ := passAtTruck_keeps (fun _ _ _ => SilentOrIdle.move) s t none begun
    obtain ⟨r'', hr'', kept⟩ := (passAtTruck_carried s (markedSilent s r) t none).truck? hmarked
    obtain rfl : r'' = r' := Option.some.inj (hr''.symm.trans hr')
    refine ⟨_, r'', silenceLimitExpiry_eq hs hr (silenceDue_of hidle hsilent hheard hpast), ?_, marked,
      kept.lastHeard.trans hheard, ?_⟩
    · rw [finish_truck?, fell, hr']
    · rw [State.finish_events, fell, passAtTruck_events s _ t none .truckSilent rfl, ← hid]
      exact raise_events_self _ _ _
  · have hid := truck?_id hr
    have fell : State.fallSilent s s r = State.release s s t (some .released) true := by
      rw [fallSilent_queued s s hqueued, hid]
    have done := (release_released s hr hk hq (some .released) true).spares (.finish s _)
    refine ⟨_, silenceLimitExpiry_eq hs hr (silenceDue_of (by simp [hqueued]) hsilent hheard hpast), ?_, ?_, ?_⟩
    · rw [fell]; exact done.truckState
    · rw [fell]; exact fun e he ht => done.unqueued k ⟨e, he, ht⟩
    · rw [State.finish_events, fell]; exact release_events s s t _ true .truckSilent rfl
  · have hid := truck?_id hr
    have due : (markedSilent s r).abandonDue { r with silent := true } = true := by
      simp [State.abandonDue, hheard, elapsed, markedSilent, habandon]
    have fell : State.fallSilent s s r = State.abandon s (markedSilent s r) t := by
      rw [fallSilent_other s s hqueued, due, hid]; rfl
    obtain ⟨released, raised, others⟩ :=
      abandon_spec (k := k) s (markedSilent_truck? hr) hk fun j ⟨e, he, ht⟩ => hq j ⟨e, he, ht⟩
    have done := released.spares (.finish s _)
    refine ⟨_, silenceLimitExpiry_eq hs hr (silenceDue_of hidle hsilent hheard hpast), ?_, ?_, ?_, ?_, ?_, ?_⟩
    · rw [fell]; exact done.truckState
    · rw [fell]; exact fun h hh ht => done.unheld ⟨h, hh, ht⟩
    · rw [fell]; exact done.entryOf
    · rw [fell]; exact fun e he ht => done.unqueued k ⟨e, he, ht⟩
    · rw [State.finish_events, fell, others .truckSilent (by decide) rfl, ← hid]
      exact raise_events_self _ _ _
    · rw [State.finish_events, fell, raised]
      exact congrArg (fun x => EventRecord.occur x (.truck t)) (raise_events_ne _ _ (by decide))

end Sys2Proof.Machine.TruckRoster
end

section
/-! PROOFS. The frame of the enrolments: what keeps the roster's truck IDs and classes, the settings store and a store in
progress (R17, R162). Only ENROL, UNENROL, STORE and its completion, and the resets, change any of the three. -/

namespace Sys2Proof.Machine.TruckRoster

/-- The enrolments of the roster, the settings store and the store in progress: all that the eighth law speaks of (R17). -/
def enrolled (s : State) : List (TruckId × ClassId) × StoreCell × Option StoreJob :=
  (s.roster.map fun r => (r.id, r.cls), s.storeCell, s.storeJob)

theorem enrolled_of_carried {s t : State} (h : RecordsCarried s t) (g : t.setup = s.setup) : enrolled t = enrolled s := by
  obtain ⟨f, hf, hr⟩ := h
  have same : ((fun r : Truck => (r.id, r.cls)) ∘ f) = fun r => (r.id, r.cls) := by
    funext r; simp [(hf r).id, (hf r).cls]
  unfold enrolled
  rw [hr, List.map_map, same, storeCell_of_setup g, storeJob_of_setup g]

theorem enrolled_of_lanes {s t : State} (h : s.sameButLanes t) : enrolled t = enrolled s := by
  rw [h]; rfl

variable (s before : State)

/-! ## Records, events and telegrams -/

@[simp] theorem enrolled_onSection (k : SectionId) (f : SectionRecord → SectionRecord) :
    enrolled (s.onSection k f) = enrolled s := rfl
@[simp] theorem enrolled_onFeeder (k : SectionId) (f : FeederRecord → FeederRecord) :
    enrolled (s.onFeeder k f) = enrolled s := rfl
@[simp] theorem enrolled_onBreak (b : BreakId) (f : BreakRecord → BreakRecord) :
    enrolled (s.onBreak b f) = enrolled s := rfl
@[simp] theorem enrolled_onLane (l : LaneId) (f : LanePort → LanePort) : enrolled (s.onLane l f) = enrolled s := rfl
@[simp] theorem enrolled_onQueue (k : SectionId) (f : List QueueEntry → List QueueEntry) :
    enrolled (s.onQueue k f) = enrolled s := rfl
@[simp] theorem enrolled_raise (e : EventKind) (x : Subject) : enrolled (s.raise e x) = enrolled s := rfl
@[simp] theorem enrolled_onSettings (f : Settings → Settings) : enrolled (s.onSettings f) = enrolled s := rfl

/-- A change of records that keeps every ID and class keeps the enrolments. -/
theorem enrolled_mapRoster {f : Truck → Truck} (h : ∀ r, (f r).id = r.id ∧ (f r).cls = r.cls) :
    enrolled { s with roster := s.roster.map f } = enrolled s := by
  have same : ((fun r : Truck => (r.id, r.cls)) ∘ f) = fun r => (r.id, r.cls) := by
    funext r; simp [(h r).1, (h r).2]
  unfold enrolled
  rw [List.map_map, same]

@[simp] theorem enrolled_onTruck (t : TruckId) (f : Truck → Truck) (h : ∀ r, (f r).id = r.id ∧ (f r).cls = r.cls) :
    enrolled (s.onTruck t f) = enrolled s :=
  enrolled_mapRoster s fun r => by split; exacts [h r, ⟨rfl, rfl⟩]

@[simp] theorem enrolled_sendOn (l : LaneId) (t : OutTelegram) : enrolled (s.sendOn l t) = enrolled s := rfl
@[simp] theorem enrolled_sendRole (r : Role) (t : OutTelegram) : enrolled (s.sendRole r t) = enrolled s :=
  enrolled_of_lanes (sendRole_lanesOnly s r t)
@[simp] theorem enrolled_sendTruck (t : OutTelegram) : enrolled (s.sendTruck t) = enrolled s :=
  enrolled_of_lanes (sendTruck_lanesOnly s t)
@[simp] theorem enrolled_sendLower (t : TruckId) (r : LowerReason) (b : Option BreakId) (p : Bool) :
    enrolled (s.sendLower t r b p) = enrolled s := enrolled_of_lanes (sendLower_lanesOnly s t r b p)
@[simp] theorem enrolled_reply (c : ReplyCode) (a i : Octet) (v : Option ReplyValue) :
    enrolled (s.reply c a i v) = enrolled s := enrolled_of_lanes (reply_lanesOnly s c a i v)
@[simp] theorem enrolled_sendGrant (k : SectionId) (h : Holder) (p : Bool) :
    enrolled (State.sendGrant before s k h p) = enrolled s := enrolled_of_lanes (sendGrant_lanesOnly s before k h p)
@[simp] theorem enrolled_sendImage (i : TableImage) : enrolled (s.sendImage i) = enrolled s :=
  enrolled_of_lanes (sendImage_lanesOnly s i)

@[simp] theorem enrolled_sendQueued (k : SectionId) (t : TruckId) (p : Bool) :
    enrolled (s.sendQueued k t p) = enrolled s := by simp [State.sendQueued]

@[simp] theorem enrolled_finish : enrolled (State.finish before s) = enrolled s := by simp [enrolled]

@[simp] theorem enrolled_flushEvents : enrolled (State.flushEvents before s) = enrolled s :=
  enrolled_of_lanes (flushEvents_lanesOnly s before)

/-! ## Places and passes -/

@[simp] theorem enrolled_endBoost (t : TruckId) : enrolled (s.endBoost t) = enrolled s :=
  enrolled_of_carried (.onTruck s t fun r => carried_endBoost _ _ r) (setup_endBoost s t)
@[simp] theorem enrolled_vacate (t : TruckId) (d : Bool) : enrolled (s.vacate t d) = enrolled s :=
  enrolled_of_carried (carried_vacate s t d) (setup_vacate s t d)
@[simp] theorem enrolled_enterQueue (k : SectionId) (t : TruckId) (r : Rank) :
    enrolled (s.enterQueue k t r) = enrolled s :=
  enrolled_of_carried (carried_enterQueue s k t r) (setup_enterQueue s k t r)
@[simp] theorem enrolled_shedInto (k : SectionId) (t : TruckId) : enrolled (s.shedInto k t) = enrolled s :=
  enrolled_of_carried (carried_shedInto s k t) (setup_shedInto s k t)
@[simp] theorem enrolled_leaveHolders (k : SectionId) (t : TruckId) (d : Bool) :
    enrolled (s.leaveHolders k t d) = enrolled s :=
  enrolled_of_carried (.of_roster (leaveHolders_roster s k t d)) (setup_leaveHolders s k t d)
@[simp] theorem enrolled_dropApproach (b : BreakId) (t : TruckId) : enrolled (s.dropApproach b t) = enrolled s := rfl
@[simp] theorem enrolled_refuse (b : BreakId) (e : ApproachEntry) (r : LowerReason) :
    enrolled (s.refuse b e r) = enrolled s :=
  enrolled_of_carried (.of_roster (refuse_roster s b e r)) (setup_refuse s b e r)
@[simp] theorem enrolled_pass (k : SectionId) (a : Option TruckId) : enrolled (State.pass before s k a) = enrolled s :=
  enrolled_of_carried (pass_carried before s k a) (setup_pass s before k a)
@[simp] theorem enrolled_passes (ks : List SectionId) : enrolled (State.passes before s ks) = enrolled s :=
  enrolled_of_carried (passes_carried before s ks) (setup_passes s before ks)
@[simp] theorem enrolled_passAtTruck (t : TruckId) (a : Option TruckId) :
    enrolled (State.passAtTruck before s t a) = enrolled s :=
  enrolled_of_carried (passAtTruck_carried before s t a) (setup_passAtTruck s before t a)
@[simp] theorem enrolled_release (t : TruckId) (r : Option LowerReason) (d : Bool) :
    enrolled (State.release before s t r d) = enrolled s :=
  enrolled_of_carried (release_carried before s t r d) (setup_release s before t r d)

@[simp] theorem enrolled_placeReply (t : TruckId) : enrolled (State.placeReply before s t) = enrolled s := by
  unfold State.placeReply; split
  · rfl
  · split <;> (try split) <;> simp

@[simp] theorem enrolled_setEffective (k : SectionId) (a : Amps) : enrolled (s.setEffective k a) = enrolled s := rfl

@[simp] theorem enrolled_callPass (k : SectionId) : enrolled (s.callPass k) = enrolled s := by
  unfold State.callPass; split <;> simp

@[simp] theorem enrolled_rampStep (k : SectionId) (e : RampEntry) : enrolled (s.rampStep k e) = enrolled s := by
  unfold State.rampStep; dsimp only; split <;> simp

/-! ## Crossing -/

@[simp] theorem enrolled_approach (b : BreakId) (t : TruckId) : enrolled (State.approach before s b t) = enrolled s := by
  unfold State.approach; split
  · rfl
  · dsimp only; split <;> (try split) <;> (try split) <;> simp

@[simp] theorem enrolled_clear (b : BreakId) (e : ApproachEntry) : enrolled (s.clear b e) = enrolled s := by
  unfold State.clear; dsimp only; split <;> simp

@[simp] theorem enrolled_recordCompletion (b : BreakId) (t : TruckId) (e : EvidenceKind) :
    enrolled (s.recordCompletion b t e) = enrolled s := rfl

@[simp] theorem enrolled_joinHolders (k : SectionId) (h : Holder) : enrolled (s.joinHolders k h) = enrolled s := by
  simp [State.joinHolders]

@[simp] theorem enrolled_completeExit (b : BreakId) (t : TruckId) :
    enrolled (State.completeExit before s b t) = enrolled s := by simp [State.completeExit]

@[simp] theorem enrolled_complete (b : BreakId) (e : ApproachEntry) (k : EvidenceKind) :
    enrolled (State.complete before s b e k) = enrolled s := by
  unfold State.complete State.completeHandover
  dsimp only
  split <;> split <;> (try split) <;> simp

@[simp] theorem enrolled_lateCrossing (b : BreakId) (t : TruckId) (k : EvidenceKind) :
    enrolled (State.lateCrossing before s b t k) = enrolled s := by
  unfold State.lateCrossing State.lateRelease
  dsimp only
  split
  · simp
  · split
    · simp
    · split
      · split <;> simp
      · simp

@[simp] theorem enrolled_sensorPassage (b : BreakId) : enrolled (State.sensorPassage before s b) = enrolled s := by
  unfold State.sensorPassage; split
  · simp
  · split
    · simp
    · split <;> simp

@[simp] theorem enrolled_passedTelegram (k : Nat) (t : TruckId) :
    enrolled (State.passedTelegram before s k t) = enrolled s := by
  unfold State.passedTelegram State.passedAt; split
  · simp
  · split
    · split
      · simp
      · split
        · rfl
        · split <;> simp
    · simp

@[simp] theorem enrolled_readGap (b : BreakId) (high : Bool) : enrolled (State.readGap before s b high) = enrolled s := by
  unfold State.readGap State.selectedEdge
  dsimp only
  repeat' split
  all_goals simp

@[simp] theorem enrolled_cancelCrossing (b : BreakId) (e : ApproachEntry) :
    enrolled (State.cancelCrossing before s b e) = enrolled s := by
  unfold State.cancelCrossing; dsimp only; split <;> (try split) <;> simp

/-! ## The roster -/

@[simp] theorem enrolled_recordDemand (t : TruckId) (a : Amps) (f : Bool) :
    enrolled (s.recordDemand t a f) = enrolled s := by
  unfold State.recordDemand; split
  · exact enrolled_onTruck s t _ fun r => ⟨rfl, rfl⟩
  · rfl

@[simp] theorem enrolled_applyDemand (t : TruckId) (a : Amps) (f : Bool) (asked : Option TruckId) :
    enrolled (State.applyDemand before s t a f asked) = enrolled s := by simp [State.applyDemand]

@[simp] theorem enrolled_takeDemand (r : Truck) (a : Amps) (f : Bool) (asked : Option TruckId) :
    enrolled (State.takeDemand before s r a f asked) = enrolled s := by
  unfold State.takeDemand; split <;> simp

@[simp] theorem enrolled_applyWaiting (r : Truck) : enrolled (State.applyWaiting before s r) = enrolled s := by
  unfold State.applyWaiting; split
  · split <;> simp
  · rfl

@[simp] theorem enrolled_freshAdmit (t : TruckId) (k : Nat) (a : Amps) (f : Bool) :
    enrolled (State.freshAdmit before s t k a f) = enrolled s := by
  unfold State.freshAdmit; split
  · simp
  · split
    · dsimp only; split <;> simp
    · simp

@[simp] theorem enrolled_repeatAdmit (r : Truck) (a : Amps) : enrolled (State.repeatAdmit before s r a) = enrolled s := by
  unfold State.repeatAdmit State.tellPlace
  repeat' split
  all_goals simp

@[simp] theorem enrolled_byType (r : Truck) (m : Inbound) : enrolled (State.byType before s r m) = enrolled s := by
  cases m with
  | truckAdmit =>
    unfold State.byType State.admitTelegram
    dsimp only
    repeat' split
    all_goals simp
  | truckDemand =>
    unfold State.byType State.demandTelegram
    dsimp only
    split <;> simp
  | truckApproach =>
    unfold State.byType State.approachTelegram
    dsimp only
    split
    · split <;> simp
    · simp
  | truckPassed => exact enrolled_passedTelegram s before _ _
  | truckLowered =>
    unfold State.byType State.loweredTelegram
    dsimp only
    split <;> simp
  | _ => rfl

@[simp] theorem enrolled_dealt (t : TruckId) (m : Inbound) : enrolled (State.dealt before s t m) = enrolled s := by
  unfold State.dealt; split <;> simp

@[simp] theorem enrolled_heardAgain (t : TruckId) (m : Inbound) :
    enrolled (State.heardAgain before s t m) = enrolled s := by
  unfold State.heardAgain; dsimp only
  split <;> split <;> (try split) <;> simp

@[simp] theorem enrolled_rosterTelegram (t : TruckId) (m : Inbound) : enrolled (s.rosterTelegram t m) = enrolled s := by
  unfold State.rosterTelegram; split
  · dsimp only; split <;> simp
  · dsimp only; split <;> simp

@[simp] theorem enrolled_fallSilent (r : Truck) : enrolled (State.fallSilent before s r) = enrolled s := by
  unfold State.fallSilent State.abandon; split
  · simp
  · dsimp only; split <;> simp

/-! ## Lanes and pairing -/

@[simp] theorem enrolled_countUnpaired (l : LaneId) : enrolled (s.countUnpaired l) = enrolled s := rfl
@[simp] theorem enrolled_setDegraded (d : Bool) : enrolled (s.setDegraded d) = enrolled s := rfl
@[simp] theorem enrolled_setHold (t : Option Time) : enrolled (s.setHold t) = enrolled s := rfl
@[simp] theorem enrolled_holdReports : enrolled s.holdReports = enrolled s := rfl

@[simp] theorem enrolled_setSlot (t : TruckId) (c : Option RadioCopy) : enrolled (s.setSlot t c) = enrolled s := by
  simp [State.setSlot]

@[simp] theorem enrolled_emptySlots : enrolled s.emptySlots = enrolled s :=
  enrolled_mapRoster s fun _ => ⟨rfl, rfl⟩

@[simp] theorem enrolled_pairTelegram (l : LaneId) (t : TruckId) (m : Inbound) :
    enrolled (s.pairTelegram l t m) = enrolled s := by
  unfold State.pairTelegram State.pairEither State.pairBoth
  repeat' split
  all_goals simp

@[simp] theorem enrolled_forgetCopies : enrolled s.forgetCopies = enrolled s := by
  unfold State.forgetCopies; split
  · rw [enrolled_emptySlots, foldl_keeps enrolled _ (fun s c => enrolled_countUnpaired s _)]
  · simp

@[simp] theorem enrolled_resyncRepeat (l : LaneId) : enrolled (s.resyncRepeat l) = enrolled s := by
  unfold State.resyncRepeat; split
  · split <;> simp
  · rfl

@[simp] theorem enrolled_derateAll : enrolled s.derateAll = enrolled s := by
  have derate : ∀ (s : State) (k : SectionId), enrolled (s.derate k) = enrolled s := by
    intro s k
    unfold State.derate
    dsimp only
    repeat' split
    all_goals simp
  unfold State.derateAll
  rw [enrolled_setHold, foldl_keeps enrolled _ derate]

@[simp] theorem enrolled_startHold : enrolled s.startHold = enrolled s := by
  unfold State.startHold; dsimp only; split <;> simp

@[simp] theorem enrolled_settleCopy (c : TruckId × RadioCopy) : enrolled (s.settleCopy c) = enrolled s := by
  unfold State.settleCopy; split <;> rfl

@[simp] theorem enrolled_updateDegraded (l : Option LaneId) : enrolled (s.updateDegraded l) = enrolled s := by
  unfold State.updateDegraded
  split
  · split
    · rfl
    · dsimp only
      rw [foldl_keeps enrolled _ (fun s c => enrolled_settleCopy s c), enrolled_emptySlots]
      split <;> simp
  · simp

@[simp] theorem enrolled_laneQuiet (l : LaneId) : enrolled (s.laneQuiet l) = enrolled s := by
  unfold State.laneQuiet; dsimp only; split <;> simp

@[simp] theorem enrolled_judgeFrame (l : LaneId) (os : List Octet) : enrolled (s.judgeFrame l os) = enrolled s := by
  unfold State.judgeFrame State.validTelegram State.laneHeard
  dsimp only
  repeat' split
  all_goals simp

@[simp] theorem enrolled_dealHanded (c : TruckId × Inbound) : enrolled (s.dealHanded c) = enrolled s := by
  simp [State.dealHanded]

@[simp] theorem enrolled_finishAll : enrolled (State.finishAll before s) = enrolled s := by
  unfold State.finishAll
  rw [foldl_keeps enrolled _ (fun s c => enrolled_dealHanded s c), enrolled_finish]
  rfl

@[simp] theorem enrolled_receiveOctet (l : LaneId) (o : LineOctet) : enrolled (s.receiveOctet l o) = enrolled s := by
  unfold State.receiveOctet
  dsimp only
  repeat' split
  all_goals simp

theorem enrolled_takeRx {s t : State} {l : LaneId} {e : RxEntry} (h : s.takeRx l e = some t) :
    enrolled t = enrolled s := by
  rw [(takeRx_eq_some.mp h).2]; rfl

/-! ## Feeder supervision -/

@[simp] theorem enrolled_judgeOverdraw (k : SectionId) (a : Amps) : enrolled (s.judgeOverdraw k a) = enrolled s := by
  unfold State.judgeOverdraw; dsimp only; split <;> simp

@[simp] theorem enrolled_recordReport (k : SectionId) (f : FeederFigures) : enrolled (s.recordReport k f) = enrolled s := rfl
@[simp] theorem enrolled_setNextTurn (k : SectionId) : enrolled (s.setNextTurn k) = enrolled s := rfl
@[simp] theorem enrolled_clearApproaches (k : SectionId) : enrolled (s.clearApproaches k) = enrolled s := rfl
@[simp] theorem enrolled_stopRestore (k : SectionId) : enrolled (s.stopRestore k) = enrolled s := rfl

@[simp] theorem enrolled_suspendTrucks (k : SectionId) : enrolled (s.suspendTrucks k) = enrolled s :=
  foldl_keeps enrolled _ (fun s t => by simp [State.suspendTruck]) _ s

@[simp] theorem enrolled_refuseHandovers (k : SectionId) (r : LowerReason) :
    enrolled (s.refuseHandovers k r) = enrolled s := by
  unfold State.refuseHandovers; split
  · exact foldl_keeps enrolled _ (fun s e => enrolled_refuse s _ e r) _ s
  · rfl

@[simp] theorem enrolled_goDead (k : SectionId) : enrolled (State.goDead before s k) = enrolled s := by
  unfold State.goDead State.passAbove
  dsimp only
  rw [enrolled_raise, foldl_keeps enrolled _ (fun s h => enrolled_sendLower s _ _ _ _), enrolled_onFeeder]
  split
  · split <;> simp
  · simp

@[simp] theorem enrolled_giveUp (k : SectionId) (r : Option LowerReason) :
    enrolled (State.giveUp before s k r) = enrolled s := by
  unfold State.giveUp; dsimp only; rw [enrolled_raise]
  exact foldl_keeps enrolled _ (fun s t => enrolled_release s before t r true) _ s

@[simp] theorem enrolled_giveUpAny (k : SectionId) (r : Option LowerReason) :
    enrolled (State.giveUpAny before s k r) = enrolled s := by
  unfold State.giveUpAny; split <;> simp

@[simp] theorem enrolled_startRestore (k : SectionId) : enrolled (State.startRestore before s k) = enrolled s := by
  unfold State.startRestore; repeat' split
  all_goals simp

@[simp] theorem enrolled_feederReport (n : Nat) (f : FeederFigures) :
    enrolled (State.feederReport before s n f) = enrolled s := by
  unfold State.feederReport State.reportClosed State.reportLockedOut State.reportOpen State.deadUnreported
  dsimp only
  repeat' split
  all_goals simp

@[simp] theorem enrolled_restoreTurn (k : SectionId) : enrolled (State.restoreTurn before s k) = enrolled s := by
  unfold State.restoreTurn State.restoreHolder; split <;> simp

/-! ## Settings -/

@[simp] theorem enrolled_emptyOut (k : SectionId) : enrolled (s.emptyOut k) = enrolled s := by
  have out : ∀ (s : State) (t : TruckId), enrolled (s.releaseOut t) = enrolled s := by simp [State.releaseOut]
  unfold State.emptyOut State.callPassAbove
  dsimp only
  rw [enrolled_onSection, foldl_keeps enrolled _ out, enrolled_refuseHandovers]
  split <;> simp

@[simp] theorem enrolled_markOut (k : SectionId) : enrolled (s.markOut k) = enrolled s := rfl
@[simp] theorem enrolled_enterService (k : SectionId) : enrolled (s.enterService k) = enrolled s := rfl

@[simp] theorem enrolled_changeCount (n : Nat) : enrolled (s.changeCount n) = enrolled s := by
  unfold State.changeCount
  dsimp only
  rw [foldl_keeps enrolled _ (fun s b => enrolled_onBreak s b _), foldl_keeps enrolled _ enrolled_enterService,
    foldl_keeps enrolled _ enrolled_emptyOut, foldl_keeps enrolled _ enrolled_markOut, enrolled_onSettings]

@[simp] theorem enrolled_onSectionSettings (k : SectionId) (f : SectionSettings → SectionSettings) :
    enrolled (s.onSectionSettings k f) = enrolled s := rfl

@[simp] theorem enrolled_recompute (k : SectionId) : enrolled (s.recompute k) = enrolled s := by
  unfold State.recompute; split
  · split <;> simp
  · rfl

@[simp] theorem enrolled_writeSection (i : SectionItem) (k : SectionId) (v : Nat) :
    enrolled (s.writeSection i k v) = enrolled s := by
  unfold State.writeSection State.setEnabled State.setRating State.setMargin State.recomputeVolts State.leaveService
  dsimp only
  repeat' split
  all_goals simp

@[simp] theorem enrolled_writeBreak (i : BreakItem) (b : BreakId) (v : Nat) :
    enrolled (s.writeBreak i b v) = enrolled s := by cases i <;> rfl

theorem afterClassChange_keeps (c : ClassRecord) (now : Time) (i : ClassItem) (r : Truck) :
    (r.afterClassChange c now i).id = r.id ∧ (r.afterClassChange c now i).cls = r.cls := by
  unfold Truck.afterClassChange Truck.endBoost
  repeat' split
  all_goals exact ⟨rfl, rfl⟩

@[simp] theorem enrolled_writeClass (i : ClassItem) (c : ClassId) (v : Nat) :
    enrolled (s.writeClass i c v) = enrolled s := by
  unfold State.writeClass
  dsimp only
  have changed : ∀ s1 : State, enrolled { s1 with
      roster := s1.roster.map fun r =>
        if r.cls = c then r.afterClassChange (s.settings.classes[c].write v i) s1.now i else r } = enrolled s1 :=
    fun s1 => enrolled_mapRoster s1 fun r => by
      split
      exacts [afterClassChange_keeps _ _ i r, ⟨rfl, rfl⟩]
  split
  · rfl
  · split
    · rw [foldl_keeps enrolled _ enrolled_callPass, changed, enrolled_onSettings]
    · rw [changed, enrolled_onSettings]

@[simp] theorem enrolled_onLaneSettings (l : LaneId) (f : LaneSettings → LaneSettings) :
    enrolled (s.onLaneSettings l f) = enrolled s := rfl

@[simp] theorem enrolled_changeRole (l : LaneId) (r : Role) : enrolled (s.changeRole l r) = enrolled s := by
  unfold State.changeRole State.leaveRole
  dsimp only
  repeat' split
  all_goals simp

@[simp] theorem enrolled_writeLane (i : LaneItem) (l : LaneId) (v : Nat) : enrolled (s.writeLane i l v) = enrolled s := by
  unfold State.writeLane State.setRole State.setLineRate
  repeat' split
  all_goals simp

@[simp] theorem enrolled_writePart (i : PartItem) (v : Nat) : enrolled (s.writePart i v) = enrolled s := by
  unfold State.writePart State.setPairingMode
  repeat' split
  all_goals simp

@[simp] theorem enrolled_writeMember (i : Item) (m : Member) (v : Nat) : enrolled (s.writeMember i m v) = enrolled s := by
  unfold State.writeMember; split <;> simp

@[simp] theorem enrolled_setCommand (l : LaneId) (c : Octet) (ms : MemberSet) (v : Nat) :
    enrolled (State.setCommand l s c ms v) = enrolled s := by
  have settled : ∀ before s : State, enrolled (State.settleRates before s l) = enrolled s := by
    intro before s
    unfold State.settleRates
    dsimp only
    rw [foldl_keeps enrolled _ (fun s l => enrolled_onLane s l _)]
    split <;> simp
  unfold State.setCommand State.performSet State.writeMembers
  dsimp only
  repeat' split
  all_goals simp [settled, foldl_keeps enrolled _ (fun s m => enrolled_writeMember s _ m v)]

/-! ## Supervisory commands -/

@[simp] theorem enrolled_touchWindow : enrolled s.touchWindow = enrolled s := rfl

@[simp] theorem enrolled_configOpen (v : BitVec 48) : enrolled (s.configOpen v) = enrolled s := by
  unfold State.configOpen
  split
  · rw [enrolled_reply]; rfl
  · simp

@[simp] theorem enrolled_configClose : enrolled s.configClose = enrolled s := by
  unfold State.configClose; rw [enrolled_reply]; rfl

@[simp] theorem enrolled_getCommand (c : Octet) (ms : MemberSet) : enrolled (s.getCommand c ms) = enrolled s := by
  unfold State.getCommand
  repeat' split
  all_goals simp

@[simp] theorem enrolled_setModes (ms : MemberSet) (m : Mode) : enrolled (State.setModes before s ms m) = enrolled s := by
  have one : ∀ (s : State) (k : SectionId), enrolled (State.setModeOf before m s k) = enrolled s := by
    intro s k
    unfold State.setModeOf
    dsimp only
    split
    · rfl
    · split
      · rw [enrolled_pass, foldl_keeps enrolled _ (fun s h => enrolled_endBoost s _), enrolled_onSectionSettings]
      · simp
  unfold State.setModes
  split
  · simp
  · rw [enrolled_reply, foldl_keeps enrolled _ one]

@[simp] theorem enrolled_forceOut (r : Truck) : enrolled (State.forceOut before s r) = enrolled s := by
  unfold State.forceOut; split <;> simp

@[simp] theorem enrolled_forceRelease (t : TruckId) : enrolled (State.forceRelease before s t) = enrolled s := by
  unfold State.forceRelease; split <;> simp

@[simp] theorem enrolled_readTables (ms : MemberSet) : enrolled (s.readTables ms) = enrolled s := by
  unfold State.readTables
  split
  · simp
  · exact foldl_keeps enrolled _ enrolled_sendImage _ s

@[simp] theorem enrolled_clearEvents (ms : MemberSet) : enrolled (s.clearEvents ms) = enrolled s := by
  unfold State.clearEvents
  split
  · simp
  · rw [enrolled_reply, foldl_keeps enrolled State.clearEvent fun _ _ => rfl]

@[simp] theorem enrolled_lockCommand : enrolled s.lockCommand = enrolled s := by
  unfold State.lockCommand
  split
  · simp
  · rw [enrolled_reply]; rfl

@[simp] theorem enrolled_openResync : enrolled s.openResync = enrolled s := by
  unfold State.openResync
  split
  · rfl
  · rw [enrolled_sendTruck]; rfl

/-- A RESTART makes every record anew with the ID and class it had (R37, R164). -/
@[simp] theorem enrolled_restart : enrolled s.restart = enrolled s := by
  unfold State.restart
  rw [enrolled_openResync, enrolled_reply]
  simp [enrolled, State.clearBlocks, resetTruck, Truck.fresh]

/-! ## Every command but eight -/

/-- May the command change the enrolments, the settings store or a store in progress? -/
def changesEnrolments : Instr → Bool
  | .powerOn _ => true
  | .powerLoss => true
  | .resetAssert => true
  | .resetRelease _ => true
  | .enrol .. => true
  | .unenrol _ => true
  | .store => true
  | .storeCompletion => true
  | _ => false

variable {s}

theorem whileRunning_enrolled {t : State} {f : State → State} (h : whileRunning s f = .next t)
    (hf : enrolled (f s) = enrolled s) : enrolled t = enrolled s := by
  unfold whileRunning at h
  split at h <;> cases h
  · exact hf
  · rfl

theorem truckCommand_enrolled {t : State} {l : LaneId} {src : TruckId} {m : Inbound} (h : truckCommand l src m s = .next t) :
    enrolled t = enrolled s := by
  refine whileRunning_enrolled h ?_
  split
  · next hx => simp [enrolled_takeRx hx]
  · rfl

theorem superCommand_enrolled {t : State} {m : Inbound} {f : LaneId → State → State → State}
    (h : superCommand m f s = .next t) (hf : ∀ l before x, enrolled (f l before x) = enrolled x) :
    enrolled t = enrolled s := by
  refine whileRunning_enrolled h ?_
  split
  · rfl
  · split
    · next hx => simp [hf, enrolled_takeRx hx]
    · rfl

end Sys2Proof.Machine.TruckRoster
end

section
/-! PROOFS. The eighth law through every step (R17). -/

namespace Sys2Proof.Machine.TruckRoster

variable {s t : State}

/-- Every command but the eight keeps the enrolments. -/
theorem exec_enrolled {c : Instr} (hc : changesEnrolments c = false) (h : exec c s = .next t) : enrolled t = enrolled s := by
  cases c with
  | powerOn | powerLoss | resetAssert | resetRelease | enrol | unenrol | store | storeCompletion => cases hc
  | truckAdmit | truckDemand | truckApproach | truckPassed | truckLowered => exact truckCommand_enrolled h
  | configOpen v =>
    simp only [exec, execConfigOpen] at h
    exact superCommand_enrolled h fun _ _ x => enrolled_configOpen x v
  | configClose =>
    simp only [exec, execConfigClose] at h
    exact superCommand_enrolled h fun _ _ x => enrolled_configClose x
  | setItem i ms v =>
    simp only [exec, execSetItem] at h
    exact superCommand_enrolled h fun l _ x => enrolled_setCommand x l i ms v.toNat
  | getItem i ms =>
    simp only [exec, execGetItem] at h
    exact superCommand_enrolled h fun _ _ x => enrolled_getCommand x i ms
  | setMode ms m =>
    simp only [exec, execSetMode] at h
    exact superCommand_enrolled h fun _ before x => enrolled_setModes x before ms m
  | forceRelease v =>
    simp only [exec, execForceRelease] at h
    exact superCommand_enrolled h fun _ before x => enrolled_forceRelease x before v
  | readTable ms =>
    simp only [exec, execReadTable] at h
    exact superCommand_enrolled h fun _ _ x => enrolled_readTables x ms
  | clearEvents ms =>
    simp only [exec, execClearEvents] at h
    exact superCommand_enrolled h fun _ _ x => enrolled_clearEvents x ms
  | commissionLock =>
    simp only [exec, execCommissionLock] at h
    exact superCommand_enrolled h fun _ _ x => enrolled_lockCommand x
  | restart =>
    simp only [exec, execRestart] at h
    exact superCommand_enrolled h fun _ _ x => enrolled_restart x
  | gapInputEdge gap high =>
    simp only [exec, execGapInputEdge] at h
    split at h
    · cases h; rfl
    · next b _ => exact whileRunning_enrolled (s := s.setGapPin b high) h (by simp)
  | frame l os =>
    simp only [exec, execFrame] at h
    refine whileRunning_enrolled h ?_
    split
    · rfl
    · exact foldl_keeps enrolled _ (fun s o => enrolled_receiveOctet s l o) _ s
  | linkBeacon l status =>
    simp only [exec, execLinkBeacon] at h
    refine whileRunning_enrolled h ?_
    cases hx : s.takeRx l
        { src := if s.settings.lanes[l].role = .radioA then 0xF8 else 0xF9, telegram := .linkBeacon status } with
    | none => rw [Option.getD_none]
    | some s1 => rw [Option.getD_some, enrolled_takeRx hx]
  | transmitStart l =>
    simp only [exec, execTransmitStart] at h
    refine whileRunning_enrolled h ?_
    split <;> simp
  | transmitEnd l =>
    simp only [exec, execTransmitEnd] at h
    exact whileRunning_enrolled h (by simp)
  | feederReport feeder breaker capacity current volts =>
    simp only [exec, execFeederReport] at h
    refine whileRunning_enrolled h ?_
    split
    · rfl
    · split
      · next hx => simp [enrolled_takeRx hx]
      · rfl
  | refreshTimerExpiry =>
    simp only [exec, execRefreshTimerExpiry] at h
    refine whileRunning_enrolled h ?_
    split
    · exact foldl_keeps enrolled _ enrolled_callPass _ _
    · rfl
  | resyncWindowClose | windowTimerExpiry =>
    simp only [exec, execResyncWindowClose, execWindowTimerExpiry] at h
    refine whileRunning_enrolled h ?_
    split <;> rfl
  | laneSilenceExpiry | frameTimeout | feederHoldExpiry | restoreTurn | restoreLapse | allocationPass =>
    simp only [exec, execLaneSilenceExpiry, execFrameTimeout, execFeederHoldExpiry, execRestoreTurn, execRestoreLapse,
      execAllocationPass] at h
    refine whileRunning_enrolled h ?_
    (try split) <;> simp
  | pairingWindowEnd | demandIntervalEnd | boostExpiry | cooldownEnd | silenceLimitExpiry | abandonment | rampStep
    | clearance | gapTimeout =>
    simp only [exec, execPairingWindowEnd, execDemandIntervalEnd, execBoostExpiry, execCooldownEnd, execSilenceLimitExpiry,
      execAbandonment, execRampStep, execClearance, execGapTimeout, State.abandon] at h
    refine whileRunning_enrolled h ?_
    repeat' split
    all_goals simp

/-! ## The law as a statement about the enrolments -/

theorem rosterLaw_of_enrolled (h : enrolled t = enrolled s) (hs : s.rosterLaw) : t.rosterLaw := by
  simp only [enrolled, Prod.mk.injEq] at h
  obtain ⟨hroster, hcell, hjob⟩ := h
  have ids : t.roster.map (fun r => r.id) = s.roster.map fun r => r.id := by
    simpa [Function.comp_def] using congrArg (List.map Prod.fst) hroster
  unfold State.rosterLaw at *
  rw [ids, hcell, hjob]
  exact hs

/-- The rosters of the settings store and of a store in progress obey the eighth law (R17). -/
theorem rosterLaw_iff {s : State} :
    s.rosterLaw ↔ enrolmentsOk (s.roster.map fun r => r.id)
      ∧ (∀ image, s.storeCell = .holding image → enrolmentsOk (image.roster.map fun e => e.truck))
      ∧ ∀ job, s.storeJob = some job → enrolmentsOk (job.image.roster.map fun e => e.truck) := by
  unfold State.rosterLaw
  cases s.storeCell <;> cases s.storeJob <;> simp

theorem enrolmentsOk_sublist {xs ys : List TruckId} (h : xs.Sublist ys) (hy : enrolmentsOk ys) : enrolmentsOk xs := by
  obtain ⟨hlen, hnodup, haddr⟩ := hy
  exact ⟨h.length_le.trans hlen, hnodup.sublist h, fun t ht => haddr t (h.subset ht)⟩

/-- A new truck address makes one more lawful enrolment where fewer than 32 stand (R17, R19). -/
theorem enrolmentsOk_append {xs : List TruckId} {t : TruckId} (hx : enrolmentsOk xs) (hlen : xs.length < 32)
    (hnew : t ∉ xs) (ht : isTruckAddress t = true) : enrolmentsOk (xs ++ [t]) := by
  obtain ⟨-, hnodup, haddr⟩ := hx
  refine ⟨by simp; omega, ?_, fun x hmem => ?_⟩
  · rw [← List.concat_eq_append, List.nodup_concat]
    exact ⟨hnew, hnodup⟩
  · rcases List.mem_append.mp hmem with hold | hnew
    · exact haddr x hold
    · rw [List.mem_singleton.mp hnew]; exact ht

theorem truck?_none_iff {s : State} {t : TruckId} : s.truck? t = none ↔ t ∉ s.roster.map fun r => r.id := by
  simp [State.truck?]

/-! ## Commands that change the enrolments -/

/-- A supervisory command keeps the law if what it does with the telegram taken keeps it. -/
theorem superCommand_keeps_law {m : Inbound} {f : LaneId → State → State → State} (hs : s.rosterLaw)
    (h : superCommand m f s = .next t) (hf : ∀ l before x, x.rosterLaw → (f l before x).rosterLaw) : t.rosterLaw := by
  unfold superCommand whileRunning at h
  cases h
  dsimp only
  split
  · split
    · exact hs
    · split
      · next hx =>
        refine rosterLaw_of_enrolled (enrolled_finishAll _ _) (hf _ _ _ ?_)
        exact rosterLaw_of_enrolled (by rw [enrolled_touchWindow, enrolled_takeRx hx]) hs
      · exact hs
  · exact hs

/-- A new roster that obeys the law, beside the store as it was. -/
theorem rosterLaw_withRoster {roster : List Truck} (hs : s.rosterLaw) (h : enrolmentsOk (roster.map fun r => r.id)) :
    State.rosterLaw { s with roster := roster } := by
  obtain ⟨-, hcell, hjob⟩ := rosterLaw_iff.mp hs
  exact rosterLaw_iff.mpr ⟨h, hcell, hjob⟩

theorem enrolReply_enrolled (s : State) (n : Nat) : enrolled (s.enrolReply n) = enrolled s := by
  unfold State.enrolReply; split <;> simp

theorem enrolCommand_keeps_law (truck : TruckId) (classNo : Nat) (hs : s.rosterLaw) :
    (s.enrolCommand truck classNo).rosterLaw := by
  have answered : ∀ code answeredTo, (s.reply code answeredTo).rosterLaw :=
    fun code answeredTo => rosterLaw_of_enrolled (enrolled_reply s code answeredTo _ _) hs
  obtain ⟨hroster, -, -⟩ := rosterLaw_iff.mp hs
  unfold State.enrolCommand
  split
  · exact answered _ _
  · split
    · next haddr =>
      unfold State.enrolTruck
      dsimp only
      split
      · next hnone =>
        split
        · next hroom =>
          refine rosterLaw_of_enrolled (enrolReply_enrolled _ _) (rosterLaw_withRoster hs ?_)
          rw [List.map_append]
          exact enrolmentsOk_append hroster (by simpa using hroom) (truck?_none_iff.mp hnone) haddr
        · exact answered _ _
      · split
        · exact rosterLaw_of_enrolled (enrolReply_enrolled _ _) hs
        · split
          · refine rosterLaw_of_enrolled (enrolReply_enrolled _ _) (rosterLaw_withRoster hs ?_)
            have ids := onTruck_ids s truck
              (fun x => Truck.reclamp s.settings.classes[classOfNumber classNo] { x with cls := classOfNumber classNo })
              fun _ => rfl
            rw [← State.onTruck_roster, ids]
            exact hroster
          · exact answered _ _
    · exact answered _ _

theorem unenrolCommand_keeps_law (before : State) (truck : TruckId) (hs : s.rosterLaw) :
    (State.unenrolCommand before s truck).rosterLaw := by
  unfold State.unenrolCommand
  split
  · exact rosterLaw_of_enrolled (enrolled_reply s _ _ _ _) hs
  · split
    · exact rosterLaw_of_enrolled (enrolled_reply s _ _ _ _) hs
    · next r _ =>
      have out := rosterLaw_of_enrolled (enrolled_forceOut s before r) hs
      refine rosterLaw_of_enrolled (enrolled_reply _ _ _ _ _) (rosterLaw_withRoster out ?_)
      exact enrolmentsOk_sublist (List.filter_sublist.map _) (rosterLaw_iff.mp out).1

theorem storeCommand_keeps_law (hs : s.rosterLaw) : s.storeCommand.rosterLaw := by
  obtain ⟨hroster, hcell, -⟩ := rosterLaw_iff.mp hs
  unfold State.storeCommand
  split
  · exact rosterLaw_of_enrolled (enrolled_reply s _ _ _ _) hs
  · refine rosterLaw_iff.mpr ⟨hroster, hcell, fun job hjob => ?_⟩
    cases hjob
    simpa [State.storeImage, Function.comp_def] using hroster

theorem completeStore_keeps_law {job : StoreJob} (hjob : s.storeJob = some job) (hs : s.rosterLaw) :
    (s.completeStore job).rosterLaw := by
  obtain ⟨hroster, -, hjobs⟩ := rosterLaw_iff.mp hs
  refine rosterLaw_of_enrolled (enrolled_reply _ _ _ _ _) (rosterLaw_iff.mpr ⟨hroster, fun image himage => ?_, ?_⟩)
  · cases himage
    exact hjobs job hjob
  · simp

/-! ## Power and resets -/

theorem interruptStore_keeps_law (hs : s.rosterLaw) : s.interruptStore.rosterLaw := by
  obtain ⟨hroster, -, -⟩ := rosterLaw_iff.mp hs
  unfold State.interruptStore
  split
  · exact rosterLaw_iff.mpr ⟨hroster, by simp, by simp⟩
  · exact hs

/-- The roster in force after a power-on is that of a lawful settings store, or empty (R165). -/
theorem loadedRoster_ok (hs : s.rosterLaw) : enrolmentsOk (s.storeCell.roster.map fun e => e.truck) := by
  obtain ⟨-, hcell, -⟩ := rosterLaw_iff.mp hs
  cases hc : s.storeCell with
  | failing => exact ⟨by simp [StoreCell.roster], by simp [StoreCell.roster], by simp [StoreCell.roster]⟩
  | holding image => exact hcell image hc

theorem powerOnReset_keeps_law (maintHigh : Bool) (hs : s.rosterLaw) : (s.powerOnReset maintHigh).rosterLaw := by
  let s1 := s.interruptStore.sampleMaint maintHigh
  have interrupted : s1.rosterLaw := rosterLaw_of_enrolled rfl (interruptStore_keeps_law hs)
  have loaded : State.rosterLaw { s1 with roster := s1.storeCell.roster.map (resetTruck s1.storeCell.settings) } :=
    rosterLaw_withRoster interrupted (by
      simpa [Function.comp_def, resetTruck, Truck.fresh] using loadedRoster_ok interrupted)
  have reported : ∀ x : State, enrolled x.reportStore = enrolled x := by
    intro x
    unfold State.reportStore
    split <;> simp
  unfold State.powerOnReset
  exact rosterLaw_of_enrolled (((reported _).trans (enrolled_openResync _)).trans rfl) loaded

/-! ## Every step -/

theorem exec_keeps_law {c : Instr} (hs : s.rosterLaw) (h : exec c s = .next t) : t.rosterLaw := by
  by_cases hc : changesEnrolments c = false
  · exact rosterLaw_of_enrolled (exec_enrolled hc h) hs
  · cases c with
    | powerOn maintHigh => cases h; exact powerOnReset_keeps_law maintHigh (rosterLaw_of_enrolled rfl hs)
    | powerLoss => cases h; exact rosterLaw_of_enrolled rfl (interruptStore_keeps_law hs)
    | resetAssert => cases h; exact rosterLaw_of_enrolled rfl (interruptStore_keeps_law hs)
    | resetRelease maintHigh =>
      cases h
      split
      · split
        · exact powerOnReset_keeps_law maintHigh (rosterLaw_of_enrolled rfl hs)
        · exact rosterLaw_of_enrolled rfl hs
      · exact hs
    | enrol truck classNo =>
      simp only [exec, execEnrol] at h
      exact superCommand_keeps_law hs h fun _ _ _ => enrolCommand_keeps_law truck classNo.toNat
    | unenrol truck =>
      simp only [exec, execUnenrol] at h
      exact superCommand_keeps_law hs h fun _ before _ => unenrolCommand_keeps_law before truck
    | store =>
      simp only [exec, execStore] at h
      exact superCommand_keeps_law hs h fun _ _ _ => storeCommand_keeps_law
    | storeCompletion =>
      simp only [exec, execStoreCompletion, whileRunning] at h
      cases h
      split
      · split
        · next job hjob =>
          split
          · exact completeStore_keeps_law hjob hs
          · exact hs
        · exact hs
      · exact hs
    | _ => exact absurd rfl hc

theorem idle_enrolled (s : State) : enrolled s.idle = enrolled s := by
  have read : ∀ (s : State) (b : BreakId), enrolled (s.readReference b) = enrolled s := by
    intro s b
    unfold State.readReference; split <;> simp
  have later : ∀ (s : State) (now : Time), enrolled { s with now := now } = enrolled s := fun _ _ => rfl
  unfold State.idle
  split
  · split
    · unfold State.tick
      exact (later _ _).trans (foldl_keeps enrolled _ read allBreaks s)
    · rfl
  · rfl

/-- Settles O50: the commands that change no enrolment keep the law with the enrolments, and each of the others keeps it. -/
theorem rosterStaysLawful : Obligations.RosterStaysLawful := by
  unfold Obligations.RosterStaysLawful
  intro s t hs h
  unfold step at h
  split at h
  · cases h
    exact rosterLaw_of_enrolled (idle_enrolled s) hs
  · next c rest _ => exact exec_keeps_law (s := { s with pending := rest }) (rosterLaw_of_enrolled rfl hs) h

end Sys2Proof.Machine.TruckRoster
end

section
/-! PROOFS. Supervisory commands about trucks, and truck telegrams that the Radio Pairing Unit acts on (R17 to R21, R28,
R152 to R154). -/

namespace Sys2Proof.Machine.TruckRoster

/-! ## A supervisory telegram taken (R147, R158) -/

theorem takeRx_of_atHead {s : State} {l : LaneId} {src : Octet} {m : Inbound} (h : s.atHead l src m) :
    s.takeRx l { src := src, telegram := m } = some (s.popRx l) :=
  takeRx_eq_some.mpr ⟨h.2, rfl⟩

/-- A supervisory command on a telegram at the head of the SUPERVISORY lane that hands over no radio copy. -/
theorem superCommand_eq {s : State} {l : LaneId} {m : Inbound} (h : s.superTakes l m) (f : LaneId → State → State → State)
    (hf : (f l s (s.superTaken l)).handed = s.handed) :
    superCommand m f s = .next (State.finish s (f l s (s.superTaken l))) := by
  obtain ⟨hlane, hhead, -⟩ := h
  rw [← finishAll_of_handed hf]
  simp only [superCommand, whileRunning_of hhead.1, hlane, takeRx_of_atHead hhead]
  rfl

/-- A supervisory command that raises no event and leaves the queues ends with nothing more to say. -/
theorem superCommand_quiet {s : State} {l : LaneId} {m : Inbound} (h : s.superTakes l m)
    (f : LaneId → State → State → State) (hf : (f l s (s.superTaken l)).handed = s.handed)
    (hq : (f l s (s.superTaken l)).queues = s.queues) (he : (f l s (s.superTaken l)).events = s.events) :
    superCommand m f s = .next (f l s (s.superTaken l)) := by
  rw [superCommand_eq h f hf, finish_eq_self (positionsTold_of_queues hq h.2.2) (newlySet_of_events he)]

/-! ## ENROL and UNENROL (R17, R19, R20) -/

/-- The checks pass in an open window with no store in progress (R159). -/
theorem turnedAway_none {s : State} (hw : s.windowOpen = true) (hj : s.storeJob = none) :
    s.turnedAway true true false = none := by
  simp [State.turnedAway, hw, State.storing, hj]

theorem superTaken_windowOpen {s : State} (l : LaneId) (hw : s.windowOpen = true) :
    (s.superTaken l).windowOpen = true := by
  simpa [State.windowOpen, State.superTaken, State.touchWindow, State.popRx] using hw

theorem classOfNumber_of_lt {n : Nat} {c : ClassId} (h : n = c.val) : classOfNumber n = c := by
  subst h
  simp [classOfNumber]

theorem enrolCommand_new {s : State} {truck : TruckId} {cls : ClassId} {classNo : Nat} (hw : s.windowOpen = true)
    (hj : s.storeJob = none) (ha : isTruckAddress truck = true) (hnew : s.truck? truck = none) (hc : classNo = cls.val) :
    s.enrolCommand truck classNo =
      if s.roster.length < 32 then
        ({ s with roster := s.roster ++ [Truck.fresh truck cls s.settings.classes[cls].floor] }).reply .accepted typeEnrol
      else s.reply .rosterFull typeEnrol := by
  have small : ¬ 3 < classNo := by omega
  simp only [State.enrolCommand, turnedAway_none hw hj, ha, if_true, State.enrolTruck, hnew, classOfNumber_of_lt hc,
    State.enrolReply, if_neg small]

theorem unenrolCommand_known {before s : State} {truck : TruckId} {r : Truck} (hw : s.windowOpen = true)
    (hj : s.storeJob = none) (hr : s.truck? truck = some r) :
    State.unenrolCommand before s truck
      = ((State.forceOut before s r).removeTruck truck).reply .accepted typeUnenrol := by
  simp only [State.unenrolCommand, turnedAway_none hw hj, hr]

theorem setup_forceOut (before s : State) (r : Truck) : (State.forceOut before s r).setup = s.setup := by
  unfold State.forceOut; split <;> simp

theorem removeTruck_truck? (s : State) (truck : TruckId) : (s.removeTruck truck).truck? truck = none :=
  truck?_none_iff.mpr (by simp [State.removeTruck])

/-- Removing a record takes its enrolment out and no other (R20). -/
theorem removeTruck_enrolments (s : State) (truck : TruckId) :
    (s.removeTruck truck).roster.map (fun x => (x.id, x.cls)) = (enrolled s).1.filter fun p => p.1 ≠ truck := by
  simp [State.removeTruck, enrolled, List.filter_map, Function.comp_def]

/-- Settles O43: ENROL by its table, and UNENROL as a release, which keeps the enrolments, and the removal of the record. -/
theorem enrolMakesAndUnenrolRemovesRecord : Obligations.EnrolMakesAndUnenrolRemovesRecord := by
  unfold Obligations.EnrolMakesAndUnenrolRemovesRecord
  refine ⟨fun s l truck classNo cls h hw hj ha hnew hc => ?_, fun s l truck r h hw hj hr => ?_⟩
  · have taken : (s.superTaken l).enrolCommand truck classNo.toNat = _ :=
      enrolCommand_new (superTaken_windowOpen l hw) hj ha hnew hc
    simp only [exec, execEnrol]
    refine (superCommand_quiet h (fun _ _ x => x.enrolCommand truck classNo.toNat) ?_ ?_ ?_).trans
      (congrArg Host.Outcome.next taken)
    all_goals
      rw [taken]
      split <;> simp [State.superTaken, State.touchWindow, State.popRx]
  · have taken : State.unenrolCommand s (s.superTaken l) truck = _ :=
      unenrolCommand_known (superTaken_windowOpen l hw) hj hr
    have handed : (State.unenrolCommand s (s.superTaken l) truck).handed = s.handed := by
      have kept := handed_of_setup (setup_forceOut s (s.superTaken l) r)
      rw [taken, State.reply_handed]
      exact kept
    have roster : (State.finish s (State.unenrolCommand s (s.superTaken l) truck)).roster
        = ((State.forceOut s (s.superTaken l) r).removeTruck truck).roster := by
      rw [State.finish_roster, taken, State.reply_roster]
    simp only [exec, execUnenrol]
    refine ⟨_, superCommand_eq h (fun _ before x => State.unenrolCommand before x truck) handed, ?_, ?_⟩
    · rw [truck?_of_roster roster, removeTruck_truck?]
    · rw [roster, removeTruck_enrolments, enrolled_forceOut, ← removeTruck_enrolments]
      rfl

/-! ## A truck telegram that the Radio Pairing Unit acts on (R152 to R154) -/

/-- The state in which the Truck Roster deals with a truck's telegram: the telegram taken from its lane, and only the truck's
record changed, in its pairing slot and in the time the truck was last heard (R18, R147, R152). -/
structure Heard (s : State) (l : LaneId) (t : TruckId) (r : Truck) (s' : State) (r' : Truck) : Prop where
  frame : s' = { s.popRx l with roster := s'.roster }
  record : s'.truck? t = some r'
  heard : r' = { r with lastHeard := some s.now, slot := r'.slot }
  others : ∀ x, x ≠ t → s'.truck? x = s.truck? x

/-- The slot of a truck may be set as its telegram is acted on, and nothing else changes (R152, R153). -/
theorem pairTelegram_acts {s : State} {l : LaneId} {t : TruckId} {m : Inbound} {r : Truck} (ha : s.actsOn l t m = true)
    (hr : s.truck? t = some r) :
    ∃ s1, s.pairTelegram l t m = s1.rosterTelegram t m ∧ (s1 = s ∨ ∃ c, s1 = s.setSlot t c) := by
  unfold State.actsOn at ha
  rw [hr] at ha
  unfold State.pairTelegram
  cases hm : s.settings.pairingMode with
  | either =>
    simp only [hm, Option.bind_some] at ha
    refine ⟨_, ?_, .inr ⟨some (s.copyOf l m), rfl⟩⟩
    simp only [State.pairEither, hr]
    split
    · next c hc =>
      simp only [hc] at ha
      rw [if_neg]
      rintro ⟨h1, h2, h3⟩
      simp [h1, h2, h3] at ha
    · rfl
  | both =>
    simp only [hm, Option.bind_some] at ha
    cases hd : s.degraded with
    | true => exact ⟨s, by simp, .inl rfl⟩
    | false =>
      simp only [hd, Bool.false_or] at ha
      refine ⟨_, ?_, .inr ⟨none, rfl⟩⟩
      simp only [Bool.false_eq_true, if_false, State.pairBoth, hr]
      cases hc : r.slot with
      | none => simp [hc] at ha
      | some c =>
        simp only [hc, Bool.and_eq_true, decide_eq_true_eq, beq_iff_eq, bne_iff_ne] at ha
        obtain ⟨⟨h1, h2⟩, h3⟩ := ha
        dsimp only
        rw [if_neg (Nat.not_lt.mpr h1), if_pos h2, if_neg h3]
  | aOnly =>
    simp only [hm, beq_iff_eq] at ha
    exact ⟨s, if_pos ha, .inl rfl⟩
  | bOnly =>
    simp only [hm, beq_iff_eq] at ha
    exact ⟨s, if_pos ha, .inl rfl⟩

/-- The telegram of a truck that is not silent is dealt with on its record as heard (R18, R26). -/
theorem rosterTelegram_known {s : State} {t : TruckId} {m : Inbound} {r : Truck} (hr : s.truck? t = some r)
    (hsilent : r.silent = false) :
    s.rosterTelegram t m = State.byType s (s.onTruck t fun x => { x with lastHeard := some s.now, silent := false })
      { r with lastHeard := some s.now, silent := false } m := by
  have heard := truck?_onTruck_self (f := fun x => { x with lastHeard := some s.now, silent := false }) (fun _ => rfl) hr
  simp only [State.rosterTelegram, hr, hsilent, Bool.false_eq_true, if_false, State.dealt, heard]

/-- A truck telegram at the head of its lane that the Radio Pairing Unit acts on, from a truck that is not silent, is dealt
with by its type in one event (R18, R147, R152). -/
theorem truckCommand_acts {s : State} {l : LaneId} {t : TruckId} {m : Inbound} {r : Truck} (h : s.truckActs l t m r) :
    ∃ before s' r', Heard s l t r s' r'
      ∧ truckCommand l t m s = .next (State.finish s (State.byType before s' r' m)) := by
  obtain ⟨hhead, hacts, hr, hsilent⟩ := h
  obtain ⟨s1, hpair, hs1⟩ := pairTelegram_acts (s := s.popRx l) hacts hr
  have slotted : s1 = { s.popRx l with roster := s1.roster } ∧ (∃ c, s1.truck? t = some { r with slot := c })
      ∧ ∀ x, x ≠ t → s1.truck? x = s.truck? x := by
    rcases hs1 with rfl | ⟨c, rfl⟩
    · exact ⟨rfl, ⟨r.slot, hr⟩, fun _ _ => rfl⟩
    · exact ⟨rfl, ⟨c, truck?_onTruck_self (f := fun x => { x with slot := c }) (fun _ => rfl) hr⟩,
        fun x hx => truck?_onTruck_ne (s.popRx l) (f := fun x => { x with slot := c }) (fun _ => rfl) hx⟩
  obtain ⟨hframe, ⟨c, hr1⟩, hothers⟩ := slotted
  have hnow : s1.now = s.now := by rw [hframe]; rfl
  refine ⟨s1, s1.onTruck t fun x => { x with lastHeard := some s1.now, silent := false },
    { r with slot := c, lastHeard := some s1.now, silent := false }, ⟨?_, ?_, ?_, ?_⟩, ?_⟩
  · rw [hframe]; rfl
  · exact truck?_onTruck_self (f := fun x => { x with lastHeard := some s1.now, silent := false }) (fun _ => rfl) hr1
  · rw [hnow, ← hsilent]
  · exact fun x hx => (truck?_onTruck_ne s1 (f := fun x => { x with lastHeard := some s1.now, silent := false })
      (fun _ => rfl) hx).trans (hothers x hx)
  · simp only [truckCommand, whileRunning_of hhead.1, takeRx_of_atHead hhead, hpair, rosterTelegram_known hr1 hsilent]

section

variable {s s' : State} {l : LaneId} {t : TruckId} {r r' : Truck} (h : Heard s l t r s' r')
include h

theorem Heard.now : s'.now = s.now := by rw [h.frame]; rfl
theorem Heard.settings : s'.settings = s.settings := by rw [h.frame]; rfl
theorem Heard.queues : s'.queues = s.queues := by rw [h.frame]; rfl
theorem Heard.sections : s'.sections = s.sections := by rw [h.frame]; rfl
theorem Heard.feeders : s'.feeders = s.feeders := by rw [h.frame]; rfl
theorem Heard.breaks : s'.breaks = s.breaks := by rw [h.frame]; rfl
theorem Heard.events : s'.events = s.events := by rw [h.frame]; rfl
theorem Heard.resyncOpened : s'.resyncOpened = s.resyncOpened := by rw [h.frame]; rfl
theorem Heard.isLive (k : SectionId) : s'.isLive k = s.isLive k := by unfold State.isLive; rw [h.sections]
theorem Heard.inService (k : SectionId) : s'.inService k = s.inService k := by unfold State.inService; rw [h.sections]
theorem Heard.freshRank (raised : Bool) : s'.freshRank raised = s.freshRank raised := by
  unfold State.freshRank; rw [h.resyncOpened]
theorem Heard.state : r'.state = r.state := by rw [h.heard]
theorem Heard.sec : r'.sec = r.sec := by rw [h.heard]
theorem Heard.cls : r'.cls = r.cls := by rw [h.heard]
theorem Heard.requested : r'.requested = r.requested := by rw [h.heard]
theorem Heard.lastApplication : r'.lastApplication = r.lastApplication := by rw [h.heard]
theorem Heard.boost : r'.boost = r.boost := by rw [h.heard]
theorem Heard.lastHeard : r'.lastHeard = some s.now := by rw [h.heard]

end

/-! ## LOWERED and FORCE_RELEASE (R21, R28) -/

theorem loweredTelegram_away (before s : State) {r : Truck} (h : r.state ≠ .idle) :
    State.loweredTelegram before s r = State.release before s r.id none false := by
  unfold State.loweredTelegram
  split
  · contradiction
  · rfl

theorem forceOut_away (before s : State) {r : Truck} (h : r.state ≠ .idle) :
    State.forceOut before s r = State.release before s r.id (some .released) true := by
  unfold State.forceOut
  split
  · contradiction
  · rfl

/-- Settles O20: both commands are a release of the truck, which nothing of their event undoes. -/
theorem releasedTruckHoldsNothing : Obligations.ReleasedTruckHoldsNothing := by
  unfold Obligations.ReleasedTruckHoldsNothing
  intro s l t r k c hc hstate hk hq
  suffices released : ∃ s' r0, exec c s = .next s' ∧ Released r0 t k s' ∧ r0.requested = r.requested ∧ r0.cls = r.cls by
    obtain ⟨s', r0, hs', hrel, hreq, hcls⟩ := released
    obtain ⟨r', hr', kept, idle⟩ := hrel.record
    exact ⟨s', r', hs', hr', idle.state, idle.sec, idle.waiting, idle.silent, idle.boost, kept.requested.trans hreq,
      kept.cls.trans hcls, fun j e he ht => hrel.unqueued j ⟨e, he, ht⟩, fun h hh ht => hrel.unheld ⟨h, hh, ht⟩,
      hrel.entryOf⟩
  rcases hc with ⟨rfl, hacts⟩ | ⟨rfl, htakes, hr⟩
  · obtain ⟨before, s1, r1, heard, hexec⟩ := truckCommand_acts hacts
    have away : r1.state ≠ .idle := by rw [heard.state]; exact hstate
    have lowered : State.byType before s1 r1 .truckLowered = State.release before s1 t none false := by
      rw [← truck?_id heard.record]
      exact loweredTelegram_away before s1 away
    have only : s1.queuedOnlyAt t k := by
      intro j
      rw [heard.queues]
      exact hq j
    refine ⟨_, r1, hexec, ?_, heard.requested, heard.cls⟩
    rw [lowered]
    exact (release_released before heard.record (heard.sec.trans hk) only _ _).spares (.finish s _)
  · have lowered : State.forceRelease s (s.superTaken l) t
        = (State.release s (s.superTaken l) t (some .released) true).reply .accepted typeForceRelease := by
      have known : (s.superTaken l).truck? t = some r := hr
      simp only [State.forceRelease, known, forceOut_away _ _ hstate, truck?_id hr]
    have handed : (State.forceRelease s (s.superTaken l) t).handed = s.handed := by
      have kept := handed_of_setup (setup_release (s.superTaken l) s t (some .released) true)
      rw [lowered, State.reply_handed]
      exact kept
    have ended := superCommand_eq htakes (fun _ before x => State.forceRelease before x t) handed
    refine ⟨_, r, ended, ?_, rfl, rfl⟩
    rw [lowered]
    exact ((release_released s (s := s.superTaken l) hr hk hq _ _).spares (.of_lanes (reply_lanesOnly _ _ _ _ _))).spares
      (.finish s _)

end Sys2Proof.Machine.TruckRoster
end

section
/-! PROOFS. What a lane's transmit queue holds after telegrams to trucks (R149, R150, R155). -/

namespace Sys2Proof.Machine.TruckRoster

/-! ## One lane's queue -/

/-- What a telegram offered does to a transmit queue depends on the queue alone. -/
theorem offer_tx_congr {p q : LanePort} (h : p.tx = q.tx) (x : OutTelegram) : (p.offer x).tx = (q.offer x).tx := by
  unfold LanePort.offer
  rw [h]
  split
  · rfl
  · split <;> rfl

@[simp] theorem offer_state (p : LanePort) (x : OutTelegram) : (p.offer x).state = p.state := by
  rw [(offer_rest p x).1]

theorem mem_replaceFirst {x y : OutTelegram} {l m : List OutTelegram} (hx : x ∈ l) (hr : x.replaceable = false)
    (h : replaceFirst y l = some m) : x ∈ m := by
  induction l generalizing m with
  | nil => cases hx
  | cons z rest ih =>
    simp only [replaceFirst] at h
    split at h
    · split at h
      · next hz =>
        cases h
        rcases List.mem_cons.mp hx with rfl | hx
        · rw [hr] at hz; cases hz
        · exact List.mem_cons_of_mem _ hx
      · cases h
    · simp only [Option.map_eq_some_iff] at h
      obtain ⟨m', hm', rfl⟩ := h
      rcases List.mem_cons.mp hx with rfl | hx
      · exact List.mem_cons_self
      · exact List.mem_cons_of_mem _ (ih hx hm')

/-- A telegram that is neither GRANT nor QUEUED stays in a transmit queue whatever is offered after it (R150). -/
theorem mem_offer {x : OutTelegram} {p : LanePort} (hx : x ∈ p.tx) (hr : x.replaceable = false) (y : OutTelegram) :
    x ∈ (p.offer y).tx := by
  unfold LanePort.offer
  split
  · next tx h =>
    unfold replacedIn at h
    split at h
    · simp only [Option.map_eq_some_iff] at h
      obtain ⟨m, hm, rfl⟩ := h
      exact List.mem_reverse.mpr (mem_replaceFirst (List.mem_reverse.mpr hx) hr hm)
    · cases h
  · split
    · exact List.mem_append_left _ hx
    · exact hx

/-- A telegram that is neither GRANT nor QUEUED is appended where there is room (R149). -/
theorem mem_offer_self {x : OutTelegram} {p : LanePort} (hr : x.replaceable = false) (hlen : p.tx.length < 16) :
    x ∈ (p.offer x).tx := by
  simp [LanePort.offer, replacedIn, hr, hlen]

/-! ## The lanes that carry telegrams to trucks (R155) -/

theorem role_of_laneOfRole {s : State} {r : Role} {l : LaneId} (h : s.laneOfRole r = some l) :
    s.settings.lanes[l].role = r := by
  have found := List.find?_some h
  simpa using found

theorem laneOfRole_of_settings {s s' : State} (h : s'.settings = s.settings) (r : Role) :
    s'.laneOfRole r = s.laneOfRole r := by
  unfold State.laneOfRole; rw [h]

theorem sendOn_lane (s : State) (l m : LaneId) (x : OutTelegram) :
    (s.sendOn l x).lanes[m] = if m = l then s.lanes[m].offer x else s.lanes[m] := by
  rw [State.sendOn, State.onLane_lanes, updateAt_get]
  split
  · next h => rw [h]
  · rfl

/-- Does the lane carry a telegram for the radio role: it holds the role and is not QUIET (R155)? -/
def reaches (s : State) (r : Role) (m : LaneId) : Bool := s.laneOfRole r == some m && s.lanes[m].state != .quiet

theorem sendRadio_lane (s : State) (x : OutTelegram) (r : Role) (m : LaneId) :
    (s.sendRadio x r).lanes[m] = if reaches s r m then s.lanes[m].offer x else s.lanes[m] := by
  unfold State.sendRadio reaches
  cases hl : s.laneOfRole r with
  | none => rfl
  | some l =>
    dsimp only
    by_cases hm : m = l
    · subst hm
      by_cases hq : s.lanes[m].state = .quiet
      · rw [if_pos hq, if_neg]; rw [hq]; simp
      · rw [if_neg hq, sendOn_lane, if_pos rfl, if_pos]; simpa using hq
    · have other : (some l == some m) = false := by simpa using fun h => hm h.symm
      rw [other, Bool.false_and]
      split
      · rfl
      · rw [sendOn_lane, if_neg hm]; rfl

theorem sendRadio_settings (s : State) (x : OutTelegram) (r : Role) : (s.sendRadio x r).settings = s.settings :=
  settings_of_setup (setup_sendRadio s x r)

theorem reaches_sendRadio (s : State) (x : OutTelegram) (q r : Role) (m : LaneId) :
    reaches (s.sendRadio x q) r m = reaches s r m := by
  unfold reaches
  rw [laneOfRole_of_settings (sendRadio_settings s x q), sendRadio_lane]
  split <;> simp

theorem foldl_sendRadio_lane (x : OutTelegram) (m : LaneId) (rs : List Role) (hn : rs.Nodup) (s : State) :
    (rs.foldl (fun s r => s.sendRadio x r) s).lanes[m]
      = if rs.any fun r => reaches s r m then s.lanes[m].offer x else s.lanes[m] := by
  induction rs generalizing s with
  | nil => rfl
  | cons r rs ih =>
    obtain ⟨hr, hn⟩ := List.nodup_cons.mp hn
    have rest : (rs.any fun q => reaches (s.sendRadio x r) q m) = rs.any fun q => reaches s q m := by
      simp only [reaches_sendRadio]
    rw [List.foldl_cons, ih hn, rest, sendRadio_lane, List.any_cons]
    by_cases h : reaches s r m = true
    · have none_else : (rs.any fun q => reaches s q m) = false := by
        rw [List.any_eq_false]
        intro q hq hreach
        unfold reaches at h hreach
        simp only [Bool.and_eq_true, beq_iff_eq] at h hreach
        have same := (role_of_laneOfRole h.1).symm.trans (role_of_laneOfRole hreach.1)
        exact hr (same ▸ hq)
      simp [h, none_else]
    · simp [h]

/-- A telegram to a truck is offered to each lane that carries such telegrams, once, and to no other (R155). -/
theorem sendTruck_lane (s : State) (x : OutTelegram) (m : LaneId) :
    (s.sendTruck x).lanes[m] = if s.carriesLane m then s.lanes[m].offer x else s.lanes[m] := by
  have carried : ((truckRoles s.settings.pairingMode).any fun r => reaches s r m) = s.carriesLane m := by
    rw [Bool.eq_iff_iff]
    simp only [List.any_eq_true, reaches, State.carriesLane, State.carriesTrucks, Bool.and_eq_true, beq_iff_eq,
      List.contains_iff_mem]
    constructor
    · rintro ⟨r, hr, hl, hq⟩
      rw [role_of_laneOfRole hl]
      exact ⟨⟨hr, hl⟩, hq⟩
    · rintro ⟨⟨hr, hl⟩, hq⟩
      exact ⟨_, hr, hl, hq⟩
  unfold State.sendTruck
  rw [foldl_sendRadio_lane x m _ (by cases s.settings.pairingMode <;> decide), carried]

theorem carriesLane_congr {s s' : State} {m : LaneId} (hs : s'.settings = s.settings)
    (hm : s'.lanes[m].state = s.lanes[m].state) : s'.carriesLane m = s.carriesLane m := by
  unfold State.carriesLane State.carriesTrucks
  rw [laneOfRole_of_settings hs, hs, hm]

/-! ## What the end of an event leaves in a transmit queue -/

theorem isRadio_of_mem_truckRoles {p : PairingMode} {r : Role} (h : r ∈ truckRoles p) : r.isRadio = true := by
  revert h
  cases p <;> cases r <;> decide

/-- An EVENT goes to a lane that carries no telegrams to trucks (R142, R155, R167). -/
theorem sendRole_lane_of_carries {s : State} {m : LaneId} (hm : s.carriesLane m = true) {r : Role}
    (hr : r.isRadio = false) (x : OutTelegram) : (s.sendRole r x).lanes[m] = s.lanes[m] := by
  unfold State.sendRole
  split
  · next l hl =>
    rw [sendOn_lane, if_neg]
    rintro rfl
    simp only [State.carriesLane, State.carriesTrucks, Bool.and_eq_true, List.contains_iff_mem, role_of_laneOfRole hl] at hm
    obtain ⟨⟨hmem, -⟩, -⟩ := hm
    rw [isRadio_of_mem_truckRoles hmem] at hr
    cases hr
  · rfl

theorem sendEvents_settings (s : State) (ks : List EventKind) (r : Role) (mask : MemberSet) (d : Octet) :
    (s.sendEvents ks r mask d).settings = s.settings := settings_of_setup (setup_sendEvents s ks r mask d)

theorem sendEvents_lane_of_carries {s : State} {m : LaneId} (hm : s.carriesLane m = true) {r : Role}
    (hr : r.isRadio = false) (ks : List EventKind) (mask : MemberSet) (d : Octet) :
    (s.sendEvents ks r mask d).lanes[m] = s.lanes[m] := by
  unfold State.sendEvents
  split
  · rfl
  · exact sendRole_lane_of_carries hm hr _

theorem flushEvents_lane_of_carries (before : State) {s : State} {m : LaneId} (hm : s.carriesLane m = true) :
    (State.flushEvents before s).lanes[m] = s.lanes[m] := by
  have first := sendEvents_lane_of_carries hm (r := .feeder) rfl (newlySet before s) s.settings.feederMask 0xF1
  unfold State.flushEvents
  dsimp only
  rw [sendEvents_lane_of_carries ((carriesLane_congr (sendEvents_settings _ _ _ _ _) (by rw [first])).trans hm) rfl, first]

/-- A telegram that waits on a lane and may not be replaced (R150). -/
def Waits (x : OutTelegram) (m : LaneId) (s : State) : Prop := x ∈ s.lanes[m].tx

section

variable {x : OutTelegram} {m : LaneId} {s : State} (hr : x.replaceable = false)
include hr

theorem Waits.sendOn (h : Waits x m s) (l : LaneId) (y : OutTelegram) : Waits x m (s.sendOn l y) := by
  unfold Waits
  rw [sendOn_lane]
  split
  · exact mem_offer h hr y
  · exact h

theorem Waits.sendRole (h : Waits x m s) (r : Role) (y : OutTelegram) : Waits x m (s.sendRole r y) := by
  unfold State.sendRole
  split
  · exact h.sendOn hr _ y
  · exact h

theorem Waits.sendTruck (h : Waits x m s) (y : OutTelegram) : Waits x m (s.sendTruck y) := by
  unfold Waits
  rw [sendTruck_lane]
  split
  · exact mem_offer h hr y
  · exact h

theorem Waits.reportPositions (h : Waits x m s) (k : SectionId) : Waits x m (s.reportPositions k) := by
  have fold : ∀ (ps : List (TruckId × Nat)) (s : State), Waits x m s →
      Waits x m (ps.foldl (fun s p => s.sendTruck (queuedTelegram k p.1 p.2 false)) s) := by
    intro ps
    induction ps with
    | nil => exact fun s h => h
    | cons p ps ih => exact fun s h => ih _ (h.sendTruck hr _)
  exact fold _ s h

theorem Waits.sendEvents (h : Waits x m s) (ks : List EventKind) (r : Role) (mask : MemberSet) (d : Octet) :
    Waits x m (s.sendEvents ks r mask d) := by
  unfold State.sendEvents
  split
  · exact h
  · exact h.sendRole hr r _

theorem Waits.finish (h : Waits x m s) (before : State) : Waits x m (State.finish before s) := by
  have fold : ∀ (ks : List SectionId) (s : State), Waits x m s → Waits x m (ks.foldl (fun s k => s.reportPositions k) s) := by
    intro ks
    induction ks with
    | nil => exact fun s h => h
    | cons k ks ih => exact fun s h => ih _ (h.reportPositions hr k)
  exact ((fold allSections s h).sendEvents hr _ _ _ _).sendEvents hr _ _ _ _

end

end Sys2Proof.Machine.TruckRoster
end

section
/-! PROOFS. A fresh ADMIT (R18, R29, R30, R39 to R46, R52, R67, R68). -/

namespace Sys2Proof.Machine.TruckRoster

/-! ## Entering a queue (R39, R40, R42) -/

/-- The entry a truck makes on arrival. -/
abbrev arriving (t : TruckId) (rank : Rank) : QueueEntry := { truck := t, rank := rank, reported := none }

/-- An arrival in a queue with room (R39). -/
theorem enterQueue_room {s : State} {k : SectionId} (h : s.queues[k].length < 8) (t : TruckId) (rank : Rank) :
    s.enterQueue k t rank = (s.onQueue k fun _ => placeEntry s.queues[k] (arriving t rank)).onTruck t
      fun r => { r with state := .queued, sec := some k } := by
  unfold State.enterQueue
  rw [show arrival s.queues[k] (arriving t rank) = some (placeEntry s.queues[k] (arriving t rank), none) from if_pos h]

theorem normalTail_append_pos {front : List QueueEntry} {tail : QueueEntry} :
    0 < normalTail (front ++ [tail]) ↔ tail.rank = .normal := by
  simp only [normalTail, List.reverse_append, List.reverse_cons, List.reverse_nil, List.nil_append, List.singleton_append,
    List.takeWhile_cons]
  split <;> simp_all

/-- An arrival at a full queue that is not placed ahead of its tail is refused (R40). -/
theorem enterQueue_refused {s : State} {k : SectionId} (h : 8 ≤ s.queues[k].length) {t : TruckId} {rank : Rank}
    (ha : aheadOfTail s.queues[k] rank = false) : s.enterQueue k t rank = s.turnAway t := by
  unfold State.enterQueue
  have behind : ¬ aheadOfTail s.queues[k] (arriving t rank).rank = true := by rw [ha]; exact Bool.false_ne_true
  rw [show arrival s.queues[k] (arriving t rank) = none from (if_neg (Nat.not_lt.mpr h)).trans (if_neg behind)]

/-- A RAISED arrival at a full queue displaces a NORMAL tail (R40). -/
theorem enterQueue_displacing {s : State} {k : SectionId} {front : List QueueEntry} {tail : QueueEntry}
    (hq : s.queues[k] = front ++ [tail]) (hlen : 7 ≤ front.length) (ht : tail.rank = .normal) (t : TruckId) :
    s.enterQueue k t .raised = ((s.onQueue k fun _ => placeEntry front (arriving t .raised)).onTruck t
      fun r => { r with state := .queued, sec := some k }).turnAway tail.truck := by
  unfold State.enterQueue
  have full : ¬ (front ++ [tail]).length < 8 := by simp; omega
  have displaced : arrival s.queues[k] (arriving t .raised) = some (placeEntry front (arriving t .raised), some tail) := by
    rw [hq, arrival, if_neg full, if_pos (by simpa [aheadOfTail] using normalTail_append_pos.mpr ht)]
    simp
  rw [displaced]

theorem freshRank_eq (s : State) (raised : Bool) :
    s.freshRank raised = if raised = true ∧ s.resyncOpened.isSome = true then .raised else .normal := by
  simp [State.freshRank, Bool.and_eq_true]

/-! ## A truck whose demand is set as it is queued (R30, R42) -/

/-- The record of a truck that an ADMIT has brought into a section with its demand applied (R30, R42). -/
structure AdmittedRecord (s : State) (k : SectionId) (r : Truck) (amps : Amps) (r' : Truck) : Prop where
  sec : r'.sec = some k
  cls : r'.cls = r.cls
  requested : r'.requested = quantumUp amps
  applied : r'.applied = clampTo s.settings.classes[r.cls].floor s.settings.classes[r.cls].ceiling r'.requested
  lastApplication : r'.lastApplication = some s.now

/-- The record of a truck as it was when it was heard tells of the demand applied since. -/
theorem Heard.admitted {s s1 : State} {l : LaneId} {t : TruckId} {r r1 r' : Truck} {k : SectionId} {amps : Amps}
    (h : Heard s l t r s1 r1) (g : AdmittedRecord s1 k r1 amps r') : AdmittedRecord s k r amps r' := by
  obtain ⟨hsec, hcls, hreq, happ, hlast⟩ := g
  rw [h.settings] at happ
  simp only [h.cls] at happ
  exact ⟨hsec, hcls.trans h.cls, hreq, happ, by rw [hlast, h.now]⟩

/-- A state that differs from another in a section's queue, a truck's record and, perhaps, the lanes: the truck has entered
the queue with its demand applied (R30, R42). -/
structure Entered (s : State) (k : SectionId) (t : TruckId) (r : Truck) (rank : Rank) (amps : Amps) (s' : State)
    (r' : Truck) : Prop where
  frame : s' = { s with
    roster := s'.roster
    queues := updateAt s.queues k fun q => placeEntry q (arriving t rank) }
  record : s'.truck? t = some r'
  state : r'.state = .queued
  admitted : AdmittedRecord s k r amps r'
  lastHeard : r'.lastHeard = r.lastHeard
  others : ∀ x, x ≠ t → s'.truck? x = s.truck? x

/-- The demand of an ADMIT applied to the record of a queued truck (R30). -/
theorem admittedRecord_apply {s : State} {k : SectionId} {r : Truck} (amps : Amps) (may : Bool) :
    AdmittedRecord s k r amps
      (Truck.apply s.settings.classes[r.cls] s.now may amps false { r with state := .queued, sec := some k }) := by
  have inactive := boostAfterDemand_inactive (c := s.settings.classes[r.cls]) (now := s.now) (may := may) (flag := false)
    (by simp) r.boost
  refine ⟨rfl, rfl, rfl, ?_, rfl⟩
  have notBoosted : ¬ (boostAfterDemand s.settings.classes[r.cls] s.now may false r.boost).isActive = true := by
    rw [inactive]; exact Bool.false_ne_true
  exact congrArg (clampTo _ · _) (if_neg notBoosted)

/-- An arrival in a queue with room, its demand set (R30, R39, R42). -/
theorem entered_of_room {s : State} {k : SectionId} {t : TruckId} {r : Truck} (hr : s.truck? t = some r)
    (h : s.queues[k].length < 8) (rank : Rank) (amps : Amps) :
    (s.enterQueue k t rank).truckState t = .queued
      ∧ ∃ r', Entered s k t r rank amps ((s.enterQueue k t rank).recordDemand t amps false) r' := by
  let s1 := s.onQueue k fun _ => placeEntry s.queues[k] (arriving t rank)
  let f : Truck → Truck := fun r => { r with state := .queued, sec := some k }
  have entered : s.enterQueue k t rank = s1.onTruck t f := enterQueue_room h t rank
  have hq : (s1.onTruck t f).truck? t = some (f r) := truck?_onTruck_self (fun _ => rfl) hr
  let g : Truck → Truck := fun x =>
    x.apply s.settings.classes[r.cls] s.now ((s1.onTruck t f).mayBoost (f r)) amps false
  have demanded : (s1.onTruck t f).recordDemand t amps false = (s1.onTruck t f).onTruck t g := by
    simp only [State.recordDemand, hq]
    rfl
  rw [entered, demanded]
  refine ⟨by rw [truckState_of_some hq], g (f r), rfl, truck?_onTruck_self (f := g) (fun _ => rfl) hq,
    rfl, admittedRecord_apply amps _, rfl, fun x hx => ?_⟩
  exact (truck?_onTruck_ne _ (f := g) (fun _ => rfl) hx).trans (truck?_onTruck_ne s1 (f := f) (fun _ => rfl) hx)

section

variable {s s' : State} {k : SectionId} {t : TruckId} {r r' : Truck} {rank : Rank} {amps : Amps}
  (h : Entered s k t r rank amps s' r')
include h

theorem Entered.now : s'.now = s.now := by rw [h.frame]
theorem Entered.settings : s'.settings = s.settings := by rw [h.frame]
theorem Entered.sections : s'.sections = s.sections := by rw [h.frame]
theorem Entered.feeders : s'.feeders = s.feeders := by rw [h.frame]
theorem Entered.breaks : s'.breaks = s.breaks := by rw [h.frame]
theorem Entered.events : s'.events = s.events := by rw [h.frame]

theorem Entered.queue_self : s'.queues[k] = placeEntry s.queues[k] (arriving t rank) := by
  rw [h.frame]; exact updateAt_get_self _ _ _

theorem Entered.queue_ne {j : SectionId} (hj : j ≠ k) : s'.queues[j] = s.queues[j] := by
  rw [h.frame]; exact updateAt_get_ne _ _ _ _ hj

theorem Entered.isLive (j : SectionId) : s'.isLive j = s.isLive j := by
  unfold State.isLive; rw [h.sections]

theorem Entered.applyPass (before : State) : State.passAtTruck before s' t none = State.pass before s' k none := by
  simp only [State.passAtTruck, h.record, h.admitted.sec]

end

/-- A fresh ADMIT naming a section in service (R42, R43). -/
theorem freshAdmit_inService (before : State) {s : State} {k : SectionId} (hk : s.inService k = true) (t : TruckId)
    (amps : Amps) (raised : Bool) :
    State.freshAdmit before s t k.val amps raised =
      if (s.enterQueue k t (s.freshRank raised)).truckState t = .queued then
        State.applyDemand before (s.enterQueue k t (s.freshRank raised)) t amps false
      else s.enterQueue k t (s.freshRank raised) := by
  have named : sectionOfNumber k.val = some k := dif_pos k.isLt
  simp only [State.freshAdmit, named, hk, if_true]

/-- A fresh ADMIT into a queue with room enters it, sets the demand, and runs the pass (R30, R42). -/
theorem freshAdmit_room (before : State) {s : State} {k : SectionId} {t : TruckId} {r : Truck} (hr : s.truck? t = some r)
    (hk : s.inService k = true) (h : s.queues[k].length < 8) (amps : Amps) (raised : Bool) :
    ∃ s' r', Entered s k t r (s.freshRank raised) amps s' r'
      ∧ State.freshAdmit before s t k.val amps raised = State.pass before s' k none := by
  obtain ⟨hqueued, r', entered⟩ := entered_of_room hr h (s.freshRank raised) amps
  refine ⟨_, r', entered, ?_⟩
  rw [freshAdmit_inService before hk, if_pos hqueued, State.applyDemand, entered.applyPass]

/-- The fresh ADMIT of an IDLE truck, once it has been heard (R26, R42). -/
theorem byType_admit_idle (before s : State) {r : Truck} (h : r.state = .idle) (sectionNo flags : Octet)
    (demand : BitVec 16) :
    State.byType before s r (.truckAdmit sectionNo demand flags)
      = State.freshAdmit before s r.id sectionNo.toNat demand.toNat (flags.getLsbD 0) := by
  have admit_of_idle : State.admitTelegram before s r sectionNo.toNat demand.toNat (flags.getLsbD 0)
      = State.freshAdmit before s r.id sectionNo.toNat demand.toNat (flags.getLsbD 0) := by
    simp only [State.admitTelegram, h]
  exact admit_of_idle

theorem exec_truckAdmit (l : LaneId) (t : TruckId) (sectionNo flags : Octet) (demand : BitVec 16) (s : State) :
    exec (.truckAdmit l t sectionNo demand flags) s = truckCommand l t (.truckAdmit sectionNo demand flags) s := rfl

/-- The command of an ADMIT of an IDLE truck that the Radio Pairing Unit acts on (R42, R147, R152). -/
theorem truckAdmit_acts {s : State} {l : LaneId} {t : TruckId} {r : Truck} {sectionNo flags : Octet} {demand : BitVec 16}
    (h : s.truckActs l t (.truckAdmit sectionNo demand flags) r) (hidle : r.state = .idle) :
    ∃ before s' r', Heard s l t r s' r'
      ∧ exec (.truckAdmit l t sectionNo demand flags) s
          = .next (State.finish s (State.freshAdmit before s' t sectionNo.toNat demand.toNat (flags.getLsbD 0))) := by
  obtain ⟨before, s', r', heard, hexec⟩ := truckCommand_acts h
  refine ⟨before, s', r', heard, ?_⟩
  rw [exec_truckAdmit, hexec, byType_admit_idle before s' (heard.state.trans hidle), truck?_id heard.record]

/-- The queue of a section after an event that ends by telling its positions (R41). -/
theorem finish_queue (before s : State) (k : SectionId) : (State.finish before s).queues[k] = toldFrom 1 s.queues[k] := by
  rw [State.finish_queues]
  simp

theorem pass_of_not_live (before : State) {s : State} {k : SectionId} (h : s.isLive k = false) (asked : Option TruckId) :
    State.pass before s k asked = s := by
  simp [State.pass, h]

/-- A fresh ADMIT to a section in service that is not LIVE, with room in its queue (R30, R42, R43, R52). -/
theorem freshAdmit_notLive {s : State} {l : LaneId} {t : TruckId} {r : Truck} {k : SectionId} {sectionNo flags : Octet}
    {demand : BitVec 16} (h : s.truckActs l t (.truckAdmit sectionNo demand flags) r) (hidle : r.state = .idle)
    (hn : sectionNo.toNat = k.val) (hin : s.inService k = true) (hlive : s.isLive k = false)
    (hroom : s.queues[k].length < 8) (htold : s.positionsTold) :
    ∃ s' r', exec (.truckAdmit l t sectionNo demand flags) s = .next s'
      ∧ s'.queues[k] = toldFrom 1 (placeEntry s.queues[k] (arriving t (s.freshRank (flags.getLsbD 0))))
      ∧ (∀ j : SectionId, j ≠ k → s'.queues[j] = s.queues[j])
      ∧ s'.truck? t = some r' ∧ r'.state = .queued ∧ AdmittedRecord s k r demand.toNat r' ∧ r'.lastHeard = some s.now
      ∧ (∀ x : TruckId, x ≠ t → s'.truck? x = s.truck? x)
      ∧ s'.sections = s.sections ∧ s'.breaks = s.breaks ∧ s'.feeders = s.feeders ∧ s'.events = s.events := by
  obtain ⟨before, s1, r1, heard, hexec⟩ := truckAdmit_acts h hidle
  obtain ⟨s2, r2, entered, hadmit⟩ := freshAdmit_room before heard.record
    ((heard.inService k).trans hin) (by rw [heard.queues]; exact hroom) demand.toNat (flags.getLsbD 0)
  have notLive : s2.isLive k = false := (entered.isLive k).trans ((heard.isLive k).trans hlive)
  rw [hn, hadmit, pass_of_not_live before notLive] at hexec
  refine ⟨_, r2, hexec, ?_, fun j hj => ?_, ?_, entered.state, heard.admitted entered.admitted,
    entered.lastHeard.trans heard.lastHeard, fun x hx => ?_, ?_, ?_, ?_, ?_⟩
  · rw [finish_queue, entered.queue_self, heard.queues, heard.freshRank]
  · rw [finish_queue, entered.queue_ne hj, heard.queues, toldFrom_of_told (htold j)]
  · rw [finish_truck?, entered.record]
  · rw [finish_truck?, entered.others x hx, heard.others x hx]
  · rw [State.finish_sections, entered.sections, heard.sections]
  · rw [State.finish_breaks, entered.breaks, heard.breaks]
  · rw [State.finish_feeders, entered.feeders, heard.feeders]
  · rw [State.finish_events, entered.events, heard.events]

/-! ## A LIVE section whose committed load fits (R46, R67, R68) -/

theorem committed_congr {s s' : State} {k : SectionId} (hset : s'.settings = s.settings) (hsec : s'.sections = s.sections)
    (hbrk : s'.breaks = s.breaks) (hrec : ∀ h ∈ s.sections[k].holders, s'.truck? h.truck = s.truck? h.truck) :
    s'.committed k = s.committed k := by
  have counted : ∀ h ∈ s.sections[k].holders, s'.countsFloor h.truck = s.countsFloor h.truck := fun h hh => by
    simp only [State.countsFloor, State.isOrdinary, State.isSuspended, State.truckState, hrec h hh]
  have floors : ∀ h ∈ s.sections[k].holders, s'.floorOf h.truck = s.floorOf h.truck := fun h hh => by
    simp only [State.floorOf, State.classOf, hrec h hh, hset]
  have floorUse : s'.floorUse k = s.floorUse k := by
    unfold State.floorUse
    rw [hsec, List.filter_congr counted]
    exact congrArg List.sum (List.map_congr_left fun h hh => floors h (List.mem_of_mem_filter hh))
  unfold State.committed State.gapUse State.reservedInto State.handoversInto
  rw [floorUse, hbrk]

/-- A pass over a section whose committed load fits is admission service and the hand-off; the rest is telegrams (R63). -/
theorem pass_of_fits (before : State) {s : State} {k : SectionId} (hlive : s.isLive k = true)
    (hfits : s.committed k ≤ s.sections[k].available) (asked : Option TruckId) :
    State.sameButLanes (((s.admissionService k).handOff k).clearEntries k) (State.pass before s k asked) := by
  have nothingRemoved : s.deficitCheck k = s := by
    unfold State.deficitCheck
    cases s.loadItems k with
    | zero => rfl
    | succ n => rw [deficitLoop, if_pos hfits]
  have cleared : ∀ x y : State, x.sameButLanes y → (x.clearEntries k).sameButLanes (y.clearEntries k) := by
    intro x y h
    rw [h]
    rfl
  unfold State.pass
  rw [if_pos hlive, nothingRemoved]
  exact sameButLanes_trans (cleared _ _ (sendGrants_lanesOnly _ before k asked)) (sendLoad_lanesOnly _ k)

theorem serviceLoop_keeps {P : State → Prop} {k : SectionId} (h : ∀ s x, P s → P (s.takeHead k x)) (n : Nat) {s : State}
    (hs : P s) : P (serviceLoop k n s) := by
  induction n generalizing s with
  | zero => exact hs
  | succ n ih =>
    unfold serviceLoop
    split
    · exact hs
    · split
      · exact ih (h _ _ hs)
      · exact hs

theorem admissionService_keeps {P : State → Prop} {k : SectionId} (h : ∀ s x, P s → P (s.takeHead k x)) {s : State}
    (hs : P s) : P (s.admissionService k) := by
  unfold State.admissionService
  split
  · exact hs
  · exact serviceLoop_keeps h _ hs

/-- Admission service leaves a queued truck QUEUED or makes it a holder, and leaves the rest of its record (R46, R67). -/
theorem admissionService_record {s : State} {t : TruckId} {r : Truck} (hr : s.truck? t = some r) (hq : r.state = .queued)
    (k : SectionId) :
    ∃ r', (s.admissionService k).truck? t = some r' ∧ (r'.state = .queued ∨ r'.state = .holder)
      ∧ r' = { r with state := r'.state } := by
  refine admissionService_keeps (P := fun x => ∃ r', x.truck? t = some r' ∧ (r'.state = .queued ∨ r'.state = .holder)
    ∧ r' = { r with state := r'.state }) (fun x y ⟨r', hr', hstate, heq⟩ => ?_) ⟨r, hr, .inl hq, rfl⟩
  have taken : (x.takeHead k y).truck? t
      = (x.truck? t).map fun r => if r.id = y then { r with state := .holder } else r :=
    truck?_onTruck _ y t (fun r => { r with state := .holder }) fun _ => rfl
  rw [hr', Option.map_some] at taken
  refine ⟨_, taken, ?_, ?_⟩
  · split
    · exact .inr rfl
    · exact hstate
  · split
    · rw [heq]
    · exact heq

/-- Where admission service does not run, or no slot is free, nobody is taken from the queue (R56, R67). -/
theorem admissionService_idle {s : State} {k : SectionId}
    (h : s.settings.sections[k].mode = .held ∨ s.inOverdraw k = true ∨ s.slotFree k = false) :
    s.admissionService k = s := by
  unfold State.admissionService
  split
  · rfl
  · next hruns =>
    simp only [Bool.or_eq_true, decide_eq_true_eq, not_or] at hruns
    have full : s.slotFree k = false := (h.resolve_left hruns.1).resolve_left hruns.2
    cases s.queues[k].length with
    | zero => rfl
    | succ n =>
      unfold serviceLoop
      split
      · rfl
      · rw [full, Bool.false_and, if_neg Bool.false_ne_true]

/-- The one truck of a queue is admitted where a slot is free and its floor fits (R67). -/
theorem admissionService_one {s : State} {k : SectionId} {e : QueueEntry} (hq : s.queues[k] = [e])
    (hmode : s.settings.sections[k].mode ≠ .held) (hdraw : s.inOverdraw k = false) (hslot : s.slotFree k = true)
    (hfits : s.committed k + s.floorOf e.truck ≤ s.sections[k].available) :
    s.admissionService k = s.takeHead k e.truck := by
  unfold State.admissionService
  rw [decide_eq_false hmode, hdraw, hq]
  simp only [Bool.or_self, Bool.false_eq_true, if_false]
  simp only [List.length_singleton, serviceLoop, hq, List.head?_cons, hslot, Bool.true_and, decide_eq_true_eq, if_pos hfits]

/-! ### The fill keeps one line per holder (R69 to R72) -/

theorem preAllot_length (e : Nat) (ls : List FillLine) : (preAllot e ls).1.length = ls.length := by
  induction ls generalizing e with
  | nil => rfl
  | cons l ls ih =>
    unfold preAllot
    split <;> simp [ih]

theorem rounds_length (n e : Nat) (ls : List FillLine) : (rounds n e ls).1.length = ls.length := by
  induction n generalizing e ls with
  | zero => rfl
  | succ n ih =>
    unfold rounds
    dsimp only
    split
    · rfl
    · rw [ih, List.length_map]

theorem walk_length (e : Nat) (ls : List FillLine) : (walk e ls).1.length = ls.length := by
  induction ls generalizing e with
  | nil => rfl
  | cons l ls ih =>
    unfold walk
    split <;> simp [ih]

theorem walks_length (n e : Nat) (ls : List FillLine) : (walks n e ls).1.length = ls.length := by
  induction n generalizing e ls with
  | zero => rfl
  | succ n ih =>
    unfold walks
    split
    · rfl
    · rw [ih, walk_length]

theorem fill_length (e : Nat) (ls : List FillLine) : (fill e ls).1.length = ls.length := by
  unfold fill
  dsimp only
  rw [walks_length, rounds_length, preAllot_length]

/-! ### The newest holder after a pass -/

/-- The holder that a list with a new last holder gives for that holder, once each is set by its own value. -/
theorem holderIn_zipWith_last {α : Type} {f : Holder → α → Holder} (hf : ∀ h a, (f h a).truck = h.truck) {old : List Holder}
    {h : Holder} {as : List α} {a : α} (hlen : old.length = as.length) (hnew : ∀ x ∈ old, x.truck ≠ h.truck) :
    holderIn (List.zipWith f (old ++ [h]) (as ++ [a])) h.truck = some (f h a) := by
  have others : (List.zipWith f old as).find? (fun x => x.truck == h.truck) = none := by
    simp only [List.find?_eq_none, beq_iff_eq]
    intro x hx hxt
    obtain ⟨y, hy, hyx⟩ := truck_of_mem_zipWith hf old as x hx
    exact hnew y hy (hyx.trans hxt)
  rw [holderIn, List.zipWith_append hlen, List.find?_append, others]
  simp [hf]

/-- The newest holder of a section after the hand-off, its target given by a line of the fill (R69, R74, R81). -/
theorem handOff_newest {s : State} {k : SectionId} {old : List Holder} {h : Holder}
    (hh : s.sections[k].holders = old ++ [h]) (hnew : ∀ x ∈ old, x.truck ≠ h.truck) :
    ∃ line, holderIn (s.handOff k).sections[k].holders h.truck = some (s.retarget h (s.newTarget k h line)) := by
  have hlines : (fill (s.room k) ((old ++ [h]).map (s.fillLine k))).1.length = old.length + 1 := by
    rw [fill_length]; simp
  rcases List.eq_nil_or_concat' (fill (s.room k) ((old ++ [h]).map (s.fillLine k))).1 with hnil | ⟨lines, line, hcons⟩
  · rw [hnil] at hlines; cases hlines
  · have hlen : old.length = lines.length := by
      rw [hcons, List.length_append] at hlines
      exact (Nat.add_right_cancel hlines).symm
    have targets : s.newTargets k = List.zipWith (s.newTarget k) old lines ++ [s.newTarget k h line] := by
      unfold State.newTargets
      dsimp only
      rw [hh, hcons, List.zipWith_append hlen]
      rfl
    refine ⟨line, ?_⟩
    rw [State.handOff, State.onSection_sections, updateAt_get_self]
    dsimp only
    rw [hh, targets]
    have hlen' : old.length = (List.zipWith (s.newTarget k) old lines).length := by simp [hlen]
    exact holderIn_zipWith_last (f := s.retarget) (fun _ _ => rfl) hlen' hnew

/-- A truck admitted to a section outside HELD mode is at its floor once the pass has set its target (R46, R68, R74). -/
theorem retarget_admitted {s : State} {k : SectionId} {t : TruckId} (ht : s.truckState t = .holder)
    (hmode : s.settings.sections[k].mode ≠ .held) (line : FillLine) :
    let h : Holder := { truck := t, issued := 0, target := 0, entry := .fromQueue }
    (s.retarget h (s.newTarget k h line)).issued = s.floorOf t
      ∧ (s.retarget h (s.newTarget k h line)).issued ≤ (s.retarget h (s.newTarget k h line)).target := by
  intro h
  have target : s.newTarget k h line = s.floorOf t + line.share * 25 := by
    simp only [State.newTarget, h, ht, if_neg hmode]
  have floor : s.afterFloorIssue h = s.floorOf t := by
    simp only [State.afterFloorIssue, State.isOrdinary, h, ht]
    by_cases hz : 0 < s.floorOf t
    · simp [hz]
    · simp [Nat.eq_zero_of_not_pos hz]
  have issued : (s.retarget h (s.newTarget k h line)).issued = s.floorOf t := by
    rw [State.retarget, floor, target]
    exact Nat.min_eq_left (Nat.le_add_right _ _)
  refine ⟨issued, ?_⟩
  rw [issued, State.retarget, target]
  exact Nat.le_add_right _ _

theorem holderIn_clearEntries {s : State} {k : SectionId} {t : TruckId} {h : Holder}
    (hh : holderIn s.sections[k].holders t = some h) :
    holderIn (s.clearEntries k).sections[k].holders t = some { h with entry := .absent } := by
  rw [State.clearEntries, State.onSection_sections, updateAt_get_self]
  unfold holderIn at *
  have same : ((fun h : Holder => h.truck == t) ∘ fun h : Holder => { h with entry := .absent }) = fun h => h.truck == t :=
    rfl
  rw [List.find?_map, same, hh]
  rfl

end Sys2Proof.Machine.TruckRoster
end

section
/-! PROOFS. A fresh ADMIT, case by case (R18, R29, R30, R39 to R46, R52, R67, R68). -/

namespace Sys2Proof.Machine.TruckRoster

/-! ## A LIVE section with room (R46, R67, R68) -/

/-- An IDLE truck stands in no admission queue and on no holder list (R17, R38). -/
theorem idle_stands_nowhere {s : State} {t : TruckId} {r : Truck} (hp : s.placesLaw) (hr : s.truck? t = some r)
    (hidle : r.state = .idle) (k : SectionId) :
    (∀ e ∈ s.queues[k], e.truck ≠ t) ∧ ∀ h ∈ s.sections[k].holders, h.truck ≠ t := by
  obtain ⟨hqueue, hholders, -⟩ := hp k
  constructor
  · rintro e he rfl
    have stands := hqueue e he
    simp [State.standsAt, hr, hidle] at stands
  · rintro h hh rfl
    have stands := hholders h hh
    simp [State.standsAt, hr, hidle, TruckState.onHolderList] at stands

theorem slotFree_congr {s s' : State} (hsec : s'.sections = s.sections) (hbrk : s'.breaks = s.breaks) (k : SectionId) :
    s'.slotFree k = s.slotFree k := by
  unfold State.slotFree State.slotsUsed State.handoversInto
  rw [hsec, hbrk]

theorem inOverdraw_congr {s s' : State} (h : s'.feeders = s.feeders) (k : SectionId) :
    s'.inOverdraw k = s.inOverdraw k := by
  unfold State.inOverdraw
  rw [h]

theorem takeHead_queue (s : State) (k : SectionId) (t : TruckId) : (s.takeHead k t).queues[k] = s.queues[k].tail := by
  rw [State.takeHead, State.onTruck_queues, State.onSection_queues, State.onQueue_queues, updateAt_get_self]

theorem takeHead_holders (s : State) (k : SectionId) (t : TruckId) :
    (s.takeHead k t).sections[k].holders
      = s.sections[k].holders ++ [{ truck := t, issued := 0, target := 0, entry := .fromQueue }] := by
  rw [State.takeHead, State.onTruck_sections, State.onSection_sections, updateAt_get_self]
  rfl

theorem takeHead_record {s : State} {t : TruckId} {r : Truck} (hr : s.truck? t = some r) (k : SectionId) :
    (s.takeHead k t).truck? t = some { r with state := .holder } :=
  truck?_onTruck_self (f := fun r => { r with state := .holder }) (fun _ => rfl) hr

theorem placeEntry_nil (e : QueueEntry) : placeEntry [] e = [e] := by
  unfold placeEntry
  split <;> rfl

/-- A fresh ADMIT to a LIVE section with room in its queue, whose committed load fits (R42, R63). -/
theorem freshAdmit_served {s : State} {l : LaneId} {t : TruckId} {r : Truck} {k : SectionId} {sectionNo flags : Octet}
    {demand : BitVec 16} (h : s.truckActs l t (.truckAdmit sectionNo demand flags) r) (hidle : r.state = .idle)
    (hn : sectionNo.toNat = k.val) (hp : s.placesLaw) (hlive : s.isLive k = true) (hroom : s.queues[k].length < 8)
    (hfits : s.committed k ≤ s.sections[k].available) :
    ∃ s1 r1 s2 r2 s3, Heard s l t r s1 r1 ∧ Entered s1 k t r1 (s.freshRank (flags.getLsbD 0)) demand.toNat s2 r2
      ∧ s2.committed k = s.committed k
      ∧ State.sameButLanes (((s2.admissionService k).handOff k).clearEntries k) s3
      ∧ exec (.truckAdmit l t sectionNo demand flags) s = .next (State.finish s s3) := by
  obtain ⟨before, s1, r1, heard, hexec⟩ := truckAdmit_acts h hidle
  have hin : s1.inService k = true := by
    rw [heard.inService]
    simp only [State.isLive, beq_iff_eq] at hlive
    simp [State.inService, -Fin.getElem_fin, hlive]
  obtain ⟨s2, r2, entered, hadmit⟩ := freshAdmit_room before heard.record hin (by rw [heard.queues]; exact hroom)
    demand.toNat (flags.getLsbD 0)
  have nowhere := (idle_stands_nowhere hp h.2.2.1 hidle k).2
  have committed : s2.committed k = s.committed k :=
    committed_congr (entered.settings.trans heard.settings) (entered.sections.trans heard.sections)
      (entered.breaks.trans heard.breaks) fun x hx =>
        (entered.others _ (nowhere x hx)).trans (heard.others _ (nowhere x hx))
  have fits : s2.committed k ≤ s2.sections[k].available := by
    rw [committed, entered.sections, heard.sections]; exact hfits
  rw [hn, hadmit] at hexec
  rw [heard.freshRank] at entered
  exact ⟨s1, r1, s2, r2, _, heard, entered, committed,
    pass_of_fits before ((entered.isLive k).trans ((heard.isLive k).trans hlive)) fits none, hexec⟩

theorem AdmittedRecord.withState {s : State} {k : SectionId} {r r' : Truck} {amps : Amps} (h : AdmittedRecord s k r amps r')
    (state : TruckState) : AdmittedRecord s k r amps { r' with state := state } :=
  ⟨h.sec, h.cls, h.requested, h.applied, h.lastApplication⟩

/-- The truck of a fresh ADMIT after the pass: QUEUED where admission service does not run or no slot is free; a holder at its
floor where nobody was queued before it, service runs, a slot is free and the floor fits; else either (R46, R67, R68). -/
theorem freshAdmit_live {s : State} {l : LaneId} {t : TruckId} {r : Truck} {k : SectionId} {sectionNo flags : Octet}
    {demand : BitVec 16} (h : s.truckActs l t (.truckAdmit sectionNo demand flags) r) (hidle : r.state = .idle)
    (hn : sectionNo.toNat = k.val) (hp : s.placesLaw) (hlive : s.isLive k = true) (hroom : s.queues[k].length < 8)
    (hfits : s.committed k ≤ s.sections[k].available) :
    ∃ s' r', exec (.truckAdmit l t sectionNo demand flags) s = .next s'
      ∧ s'.truck? t = some r' ∧ (r'.state = .queued ∨ r'.state = .holder) ∧ AdmittedRecord s k r demand.toNat r'
      ∧ r'.lastHeard = some s.now
      ∧ (s.settings.sections[k].mode = .held ∨ s.inOverdraw k = true ∨ s.slotFree k = false → r'.state = .queued)
      ∧ (s.queues[k] = [] → s.settings.sections[k].mode ≠ .held → s.inOverdraw k = false → s.slotFree k = true →
          s.committed k + s.settings.classes[r.cls].floor ≤ s.sections[k].available →
          r'.state = .holder ∧ s'.queues[k] = []
            ∧ ∃ h, holderIn s'.sections[k].holders t = some h ∧ h.issued = s.settings.classes[r.cls].floor
              ∧ h.issued ≤ h.target) := by
  obtain ⟨s1, r1, s2, r2, s3, heard, entered, committed, passed, hexec⟩ := freshAdmit_served h hidle hn hp hlive hroom hfits
  have settings : s2.settings = s.settings := entered.settings.trans heard.settings
  have sections : s2.sections = s.sections := entered.sections.trans heard.sections
  have overdraw : s2.inOverdraw k = s.inOverdraw k := inOverdraw_congr (entered.feeders.trans heard.feeders) k
  have slots : s2.slotFree k = s.slotFree k := slotFree_congr sections (entered.breaks.trans heard.breaks) k
  obtain ⟨r', hr', hstate, heq⟩ := admissionService_record entered.record entered.state k
  have record : (State.finish s s3).truck? t = some r' := by
    rw [finish_truck?, truck?_of_roster (by rw [passed]; rfl : s3.roster = (s2.admissionService k).roster), hr']
  refine ⟨_, r', hexec, record, hstate, ?_, ?_, fun hstays => ?_, fun hempty hmode hdraw hslot hfloor => ?_⟩
  · rw [heq]; exact heard.admitted (entered.admitted.withState _)
  · rw [heq]; exact entered.lastHeard.trans heard.lastHeard
  · rw [admissionService_idle (by rw [settings, overdraw, slots]; exact hstays), entered.record] at hr'
    rw [← Option.some.inj hr', entered.state]
  · have alone : s2.queues[k] = [arriving t (s.freshRank (flags.getLsbD 0))] := by
      rw [entered.queue_self, heard.queues, hempty, placeEntry_nil]
    have floor : s2.floorOf t = s.settings.classes[r.cls].floor := by
      simp only [State.floorOf, classOf_of_some entered.record, settings, entered.admitted.cls, heard.cls]
    have taken : s2.admissionService k = s2.takeHead k t :=
      admissionService_one alone (by rw [settings]; exact hmode) (overdraw.trans hdraw) (slots.trans hslot)
        (by rw [committed, floor, sections]; exact hfloor)
    have holder := takeHead_record entered.record k
    rw [taken, holder] at hr'
    have floorTaken : (s2.takeHead k t).floorOf t = s2.floorOf t := by
      simp only [State.floorOf, classOf_of_some holder, classOf_of_some entered.record]
      rfl
    have newest : ∀ x ∈ s2.sections[k].holders, x.truck ≠ t := by
      rw [sections]; exact (idle_stands_nowhere hp h.2.2.1 hidle k).2
    obtain ⟨line, hline⟩ := handOff_newest (takeHead_holders s2 k t) newest
    obtain ⟨issued, below⟩ := retarget_admitted (k := k) (s := s2.takeHead k t)
      (truckState_of_some holder) (by rw [show (s2.takeHead k t).settings = s.settings from settings]; exact hmode) line
    have after : (State.finish s s3).sections = (((s2.takeHead k t).handOff k).clearEntries k).sections := by
      rw [State.finish_sections, passed, taken]
    have served := (congrArg (fun v : Vector SectionRecord 6 => holderIn v[k].holders t) after).trans
      (holderIn_clearEntries hline)
    refine ⟨by rw [← Option.some.inj hr'], ?_, _, served, issued.trans (floorTaken.trans floor), below⟩
    rw [finish_queue, show s3.queues = (s2.admissionService k).queues by rw [passed]; rfl, taken, takeHead_queue, alone]
    rfl

/-! ## A full queue (R40, R44) -/

theorem turnAway_lane (s : State) (t : TruckId) (m : LaneId) :
    (s.turnAway t).lanes[m] = if s.carriesLane m then
        s.lanes[m].offer { dest := t, urgent := true, answer := false, payload := .lower .queueFull none }
      else s.lanes[m] :=
  sendTruck_lane (s.toIdle t) _ m

theorem turnAway_roster (s : State) (t : TruckId) : (s.turnAway t).roster = (s.toIdle t).roster := by
  simp [State.turnAway]

theorem turnAway_record {s : State} {t : TruckId} {r : Truck} (hr : s.truck? t = some r) :
    (s.turnAway t).truck? t = some (r.toIdle (s.classOf t) s.now) :=
  (truck?_of_roster (turnAway_roster s t) t).trans (truck?_onTruck_self (toIdle_id _ _) hr)

theorem turnAway_truckState (s : State) (t : TruckId) : (s.turnAway t).truckState t = .idle := by
  cases hr : s.truck? t with
  | some r => rw [truckState_of_some (turnAway_record hr)]; rfl
  | none =>
    have none : (s.turnAway t).truck? t = none := by
      rw [truck?_of_roster (turnAway_roster s t)]
      exact (truck?_onTruck s t t _ (toIdle_id _ _)).trans (by rw [hr]; rfl)
    simp [State.truckState, none]

theorem turnAway_rest (s : State) (t : TruckId) :
    (s.turnAway t).queues = s.queues ∧ (s.turnAway t).sections = s.sections ∧ (s.turnAway t).breaks = s.breaks
      ∧ (s.turnAway t).feeders = s.feeders ∧ (s.turnAway t).settings = s.settings := by
  simp [State.turnAway, State.toIdle]

theorem turnAway_events (s : State) (t : TruckId) :
    (s.turnAway t).events[EventKind.queueFull.code] = s.events[EventKind.queueFull.code].occur (.truck t) := by
  rw [State.turnAway, raise_events_self]
  simp [State.toIdle]

theorem Heard.lane_tx {s s' : State} {l : LaneId} {t : TruckId} {r r' : Truck} (h : Heard s l t r s' r') (m : LaneId) :
    s'.lanes[m].tx = s.lanes[m].tx ∧ s'.lanes[m].state = s.lanes[m].state := by
  have lanes : s'.lanes = updateAt s.lanes l fun p => { p with rx := p.rx.tail } := by rw [h.frame]; rfl
  rw [lanes, updateAt_get]
  split
  · next hm => subst hm; exact ⟨rfl, rfl⟩
  · exact ⟨rfl, rfl⟩

theorem Heard.carriesLane {s s' : State} {l : LaneId} {t : TruckId} {r r' : Truck} (h : Heard s l t r s' r') (m : LaneId) :
    s'.carriesLane m = s.carriesLane m := carriesLane_congr h.settings (h.lane_tx m).2

/-- A NORMAL arrival, or a RAISED one behind no NORMAL entry, is not placed ahead of the tail (R40). -/
theorem aheadOfTail_refused {s : State} {raised : Bool} {front : List QueueEntry} {tail : QueueEntry}
    (h : raised = false ∨ s.resyncOpened = none ∨ tail.rank ≠ .normal) :
    aheadOfTail (front ++ [tail]) (s.freshRank raised) = false := by
  unfold State.freshRank
  split
  · next hrank =>
    simp only [Bool.and_eq_true] at hrank
    have behind : tail.rank ≠ .normal := by
      rcases h with h | h | h
      · rw [h] at hrank; cases hrank.1
      · rw [h] at hrank; cases hrank.2
      · exact h
    simp only [aheadOfTail, decide_eq_false_iff_not]
    exact fun hpos => behind (normalTail_append_pos.mp hpos)
  · rfl

/-- A fresh ADMIT refused at a full queue (R40, R44). -/
theorem freshAdmit_refused {s : State} {l : LaneId} {t : TruckId} {r : Truck} {k : SectionId} {sectionNo flags : Octet}
    {demand : BitVec 16} (h : s.truckActs l t (.truckAdmit sectionNo demand flags) r) (hidle : r.state = .idle)
    (hn : sectionNo.toNat = k.val) (hin : s.inService k = true) (htold : s.positionsTold) (hfull : 8 ≤ s.queues[k].length)
    (ha : aheadOfTail s.queues[k] (s.freshRank (flags.getLsbD 0)) = false) :
    ∃ s' r', exec (.truckAdmit l t sectionNo demand flags) s = .next s'
      ∧ s'.truck? t = some r' ∧ r'.state = .idle ∧ r'.sec = none ∧ r'.requested = r.requested
      ∧ r'.lastApplication = r.lastApplication ∧ r'.lastHeard = some s.now
      ∧ s'.events[EventKind.queueFull.code] = s.events[EventKind.queueFull.code].occur (.truck t)
      ∧ (∀ m : LaneId, s.carriesLane m = true → s'.lanes[m].tx = (s.lanes[m].offer
          { dest := t, urgent := true, answer := false, payload := .lower .queueFull none }).tx)
      ∧ s'.queues = s.queues ∧ s'.sections = s.sections ∧ s'.breaks = s.breaks ∧ s'.feeders = s.feeders := by
  obtain ⟨before, s1, r1, heard, hexec⟩ := truckAdmit_acts h hidle
  have refused : s1.enterQueue k t (s1.freshRank (flags.getLsbD 0)) = s1.turnAway t := by
    rw [heard.freshRank]
    exact enterQueue_refused (by rw [heard.queues]; exact hfull) (by rw [heard.queues]; exact ha)
  have away : State.freshAdmit before s1 t k.val demand.toNat (flags.getLsbD 0) = s1.turnAway t := by
    rw [freshAdmit_inService before ((heard.inService k).trans hin), refused, if_neg]
    rw [turnAway_truckState]
    decide
  obtain ⟨queues, sections, breaks, feeders, settings⟩ := turnAway_rest s1 t
  have told : (s1.turnAway t).positionsTold := positionsTold_of_queues (queues.trans heard.queues) htold
  have ended : State.finish s (s1.turnAway t) = State.flushEvents s (s1.turnAway t) := by
    unfold State.finish; rw [reportAllPositions_of_told told]
  rw [hn, away] at hexec
  have idle := carried_toIdle (s1.classOf t) s1.now r1
  refine ⟨_, _, hexec, (finish_truck? _ _ _).trans (turnAway_record heard.record), rfl, rfl,
    idle.requested.trans heard.requested, idle.lastApplication.trans heard.lastApplication,
    idle.lastHeard.trans heard.lastHeard, ?_, fun m hm => ?_, ?_, ?_, ?_, ?_⟩
  · rw [State.finish_events, turnAway_events, heard.events]
  · have carries : s1.carriesLane m = true := (heard.carriesLane m).trans hm
    have lane := turnAway_lane s1 t m
    rw [if_pos carries] at lane
    have still : (s1.turnAway t).carriesLane m = true :=
      (carriesLane_congr settings (by rw [lane, offer_state])).trans carries
    rw [ended, flushEvents_lane_of_carries s still, lane]
    exact offer_tx_congr (heard.lane_tx m).1 _
  · rw [ended, State.flushEvents_queues, queues, heard.queues]
  · rw [State.finish_sections, sections, heard.sections]
  · rw [State.finish_breaks, breaks, heard.breaks]
  · rw [State.finish_feeders, feeders, heard.feeders]

/-- The LOWER of a truck turned away. -/
abbrev queueFullLower (t : TruckId) : OutTelegram :=
  { dest := t, urgent := true, answer := false, payload := .lower .queueFull none }

/-- What is left of the state when a truck has entered a full queue in the place of its tail, with its demand set. -/
structure Displaced (s : State) (k : SectionId) (t : TruckId) (front : List QueueEntry) (tail : QueueEntry) (s' : State) :
    Prop where
  queue : s'.queues[k] = placeEntry front (arriving t .raised)
  others : ∀ j : SectionId, j ≠ k → s'.queues[j] = s.queues[j]
  entered : s'.truckState t = .queued
  away : s'.truckState tail.truck = .idle
  raised : s'.events[EventKind.queueFull.code] = s.events[EventKind.queueFull.code].occur (.truck tail.truck)
  told : ∀ m : LaneId, s.carriesLane m = true → s.lanes[m].tx.length < 16 → Waits (queueFullLower tail.truck) m s'
  rest : s'.sections = s.sections ∧ s'.breaks = s.breaks ∧ s'.feeders = s.feeders

/-- A RAISED fresh ADMIT to a full queue with a NORMAL tail, in a section that is not LIVE (R40, R42). -/
theorem displaced_of_full (before : State) {s : State} {k : SectionId} {t : TruckId} {r : Truck} {front : List QueueEntry}
    {tail : QueueEntry} {amps : Amps} (hr : s.truck? t = some r) (hin : s.inService k = true) (hlive : s.isLive k = false)
    (hq : s.queues[k] = front ++ [tail]) (hlen : 7 ≤ front.length) (ht : tail.rank = .normal) (hne : t ≠ tail.truck)
    (hopen : s.resyncOpened.isSome = true) :
    Displaced s k t front tail (State.freshAdmit before s t k.val amps true) := by
  let f : Truck → Truck := fun r => { r with state := .queued, sec := some k }
  let u := (s.onQueue k fun _ => placeEntry front (arriving t .raised)).onTruck t f
  let v := u.turnAway tail.truck
  have enters : s.enterQueue k t (s.freshRank true) = v := by
    rw [freshRank_eq, if_pos ⟨rfl, hopen⟩]
    exact enterQueue_displacing hq hlen ht t
  have hu : u.truck? t = some (f r) := truck?_onTruck_self (f := f) (fun _ => rfl) hr
  have hv : v.truck? t = some (f r) := (Spares.turnAway u hne).record.trans hu
  let g : Truck → Truck := fun x => x.apply v.settings.classes[r.cls] v.now (v.mayBoost (f r)) amps false
  have demanded : v.recordDemand t amps false = v.onTruck t g := by
    simp only [State.recordDemand, hv]
    rfl
  have hw : (v.onTruck t g).truck? t = some (g (f r)) := truck?_onTruck_self (f := g) (fun _ => rfl) hv
  obtain ⟨queues, sections, breaks, feeders, -⟩ := turnAway_rest u tail.truck
  have notLive : (v.onTruck t g).isLive k = false := by
    unfold State.isLive at *
    rw [State.onTruck_sections, sections]
    exact hlive
  have admitted : State.freshAdmit before s t k.val amps true = v.onTruck t g := by
    rw [freshAdmit_inService before hin, enters, if_pos (truckState_of_some hv), State.applyDemand, demanded]
    simp only [State.passAtTruck, hw]
    exact pass_of_not_live before notLive none
  rw [admitted]
  refine ⟨?_, fun j hj => ?_, truckState_of_some hw, ?_, ?_, fun m hm hroom => ?_, sections, breaks, feeders⟩
  · rw [State.onTruck_queues, queues]
    exact updateAt_get_self _ _ _
  · rw [State.onTruck_queues, queues]
    exact updateAt_get_ne _ _ _ _ hj
  · have same : (v.onTruck t g).truck? tail.truck = v.truck? tail.truck :=
      truck?_onTruck_ne v (f := g) (fun _ => rfl) (Ne.symm hne)
    unfold State.truckState
    rw [same]
    exact turnAway_truckState u tail.truck
  · exact turnAway_events u tail.truck
  · have lane := turnAway_lane u tail.truck m
    rw [if_pos (show u.carriesLane m = true from hm)] at lane
    unfold Waits
    rw [State.onTruck_lanes, lane]
    exact mem_offer_self rfl hroom

theorem Heard.displaced {s s1 s' : State} {l : LaneId} {t : TruckId} {r r1 : Truck} {k : SectionId}
    {front : List QueueEntry} {tail : QueueEntry} (h : Heard s l t r s1 r1) (g : Displaced s1 k t front tail s') :
    Displaced s k t front tail s' := by
  obtain ⟨queue, others, entered, away, raised, told, sections, breaks, feeders⟩ := g
  exact ⟨queue, fun j hj => (others j hj).trans (by rw [h.queues]), entered, away, by rw [raised, h.events],
    fun m hm hroom => told m ((h.carriesLane m).trans hm) (by rw [(h.lane_tx m).1]; exact hroom),
    sections.trans h.sections, breaks.trans h.breaks, feeders.trans h.feeders⟩

/-! ## A section not in service, and a truck not enrolled (R18, R43) -/

/-- A fresh ADMIT that names no section in service (R43). -/
theorem freshAdmit_noSection (before : State) {s : State} {n : Nat} (h : ∀ k : SectionId, n = k.val → s.inService k = false)
    (t : TruckId) (amps : Amps) (raised : Bool) :
    State.freshAdmit before s t n amps raised = s.sendLower t .noSection := by
  unfold State.freshAdmit
  split
  · rfl
  · next k hk =>
    have named : n = k.val := by
      unfold sectionOfNumber at hk
      split at hk
      · cases hk; rfl
      · cases hk
    rw [h k named]
    rfl

/-- A telegram acted on from an ID with no record goes to the Truck Roster as it is (R152, R153). -/
theorem pairTelegram_unknown {s : State} {l : LaneId} {t : TruckId} {m : Inbound} (ha : s.actsOn l t m = true)
    (hr : s.truck? t = none) : s.pairTelegram l t m = s.rosterTelegram t m := by
  unfold State.actsOn at ha
  unfold State.pairTelegram
  cases hm : s.settings.pairingMode with
  | either => simp only [State.pairEither, hr]
  | both =>
    have degraded : s.degraded = true := by simpa [hm, hr] using ha
    exact if_pos degraded
  | aOnly =>
    simp only [hm, beq_iff_eq] at ha
    exact if_pos ha
  | bOnly =>
    simp only [hm, beq_iff_eq] at ha
    exact if_pos ha

/-- A telegram sent after a change of the roster alone leaves the lanes and that roster as the only changes. -/
theorem frame_of_sameButLanes {s u v : State} (hu : u = { s with roster := u.roster })
    (hv : u.sameButLanes v) (hr : v.roster = u.roster) : v = { s with lanes := v.lanes, roster := v.roster } :=
  hv.trans ((congrArg (fun x : State => { x with lanes := v.lanes }) hu).trans (by rw [hr]))

/-- Settles O16: the fresh ADMIT is a chain of a telegram heard, an arrival in a queue, a demand applied and a pass; its five
clauses are the cases of the arrival. -/
theorem freshAdmitIsQueued : Obligations.FreshAdmitIsQueued := by
  unfold Obligations.FreshAdmitIsQueued
  refine ⟨fun s l t r k sectionNo flags demand h hidle hn hin hlive hroom htold => ?_,
    fun s l t r k sectionNo flags demand h hidle hn hp hlive hroom hfits => ?_,
    fun s l t r k sectionNo flags demand front tail h hidle hn hin htold hq hlen =>
      ⟨fun hrefused => ?_, fun hraised hopen htail hp hlive => ?_⟩,
    fun s l t r sectionNo flags demand h hidle htold hnone => ?_,
    fun s l t sectionNo flags demand htold hhead hacts hr => ?_⟩
  · obtain ⟨s', r', hexec, queue, queues, record, state, admitted, lastHeard, rest⟩ :=
      freshAdmit_notLive h hidle hn hin hlive hroom htold
    rw [freshRank_eq] at queue
    exact ⟨s', r', hexec, queue, queues, record, state, admitted.sec, admitted.cls, admitted.requested, admitted.applied,
      admitted.lastApplication, lastHeard, rest⟩
  · obtain ⟨s', r', hexec, record, state, admitted, rest⟩ := freshAdmit_live h hidle hn hp hlive hroom hfits
    exact ⟨s', r', hexec, record, state, admitted.sec, admitted.cls, admitted.requested, admitted.applied,
      admitted.lastApplication, rest⟩
  · have full : 8 ≤ s.queues[k].length := by
      rw [hq, List.length_append]
      exact Nat.succ_le_succ hlen
    exact freshAdmit_refused h hidle hn hin htold full (by rw [hq]; exact aheadOfTail_refused hrefused)
  · obtain ⟨before, s1, r1, heard, hexec⟩ := truckAdmit_acts h hidle
    have hne : t ≠ tail.truck := fun ht =>
      (idle_stands_nowhere hp h.2.2.1 hidle k).1 tail (by rw [hq]; simp) ht.symm
    have displaced := heard.displaced (displaced_of_full before (amps := demand.toNat) heard.record
      ((heard.inService k).trans hin) ((heard.isLive k).trans hlive) (by rw [heard.queues]; exact hq) hlen htail hne
      (by rw [heard.resyncOpened]; exact hopen))
    rw [hn, hraised] at hexec
    obtain ⟨queue, others, entered, away, raised, told, sections, breaks, feeders⟩ := displaced
    refine ⟨_, hexec, by rw [finish_queue, queue], ?_, ?_, by rw [State.finish_events, raised],
      fun m hm hroom => (told m hm hroom).finish rfl s, fun j hj => ?_, by rw [State.finish_sections, sections],
      by rw [State.finish_breaks, breaks], by rw [State.finish_feeders, feeders]⟩
    · unfold State.truckState; rw [finish_truck?]; exact entered
    · unfold State.truckState; rw [finish_truck?]; exact away
    · rw [finish_queue, others j hj, toldFrom_of_told (htold j)]
  · obtain ⟨before, s1, r1, heard, hexec⟩ := truckAdmit_acts h hidle
    rw [freshAdmit_noSection before fun k hk => (heard.inService k).trans (hnone k hk)] at hexec
    have quiet : State.finish s (s1.sendLower t .noSection) = s1.sendLower t .noSection :=
      finish_eq_self (positionsTold_of_queues (by rw [State.sendLower_queues, heard.queues]) htold)
        (newlySet_of_events (by rw [State.sendLower_events, heard.events]))
    rw [quiet] at hexec
    refine ⟨_, r1, hexec, ?_, ?_, ?_, fun x hx => ?_, fun m => ?_⟩
    · exact frame_of_sameButLanes heard.frame (sendLower_lanesOnly s1 t .noSection none false)
        (State.sendLower_roster s1 t .noSection none false)
    · rw [truck?_of_roster (State.sendLower_roster s1 t .noSection none false), heard.record]
    · exact heard.heard
    · rw [truck?_of_roster (State.sendLower_roster s1 t .noSection none false), heard.others x hx]
    · have lane := sendTruck_lane s1 { dest := t, urgent := true, answer := false, payload := .lower .noSection none } m
      rw [heard.carriesLane] at lane
      refine (congrArg LanePort.tx lane).trans ?_
      split
      · exact offer_tx_congr (heard.lane_tx m).1 _
      · exact (heard.lane_tx m).1
  · have hacts' : (s.popRx l).pairTelegram l t (.truckAdmit sectionNo demand flags)
        = ((s.popRx l).raise .notEnrolled (.truck t)).sendLower t .notEnrolled := by
      rw [pairTelegram_unknown (s := s.popRx l) hacts hr]
      have unknown : (s.popRx l).truck? t = none := hr
      simp only [State.rosterTelegram, unknown]
    have hexec : exec (.truckAdmit l t sectionNo demand flags) s
        = .next (State.finish s (((s.popRx l).raise .notEnrolled (.truck t)).sendLower t .notEnrolled)) := by
      rw [exec_truckAdmit]
      simp only [truckCommand, whileRunning_of hhead.1, takeRx_of_atHead hhead, hacts']
    refine ⟨_, hexec, ?_, ?_, ?_, ?_, ?_, ?_⟩
    · rw [State.finish_events, State.sendLower_events, raise_events_self]
      rfl
    · rw [State.finish_roster, State.sendLower_roster]
      rfl
    · have told : (((s.popRx l).raise .notEnrolled (.truck t)).sendLower t .notEnrolled).positionsTold :=
        positionsTold_of_queues (State.sendLower_queues _ _ _ _ _) htold
      unfold State.finish
      rw [reportAllPositions_of_told told, State.flushEvents_queues, State.sendLower_queues]
      rfl
    · rw [State.finish_sections, State.sendLower_sections]
      rfl
    · rw [State.finish_breaks, State.sendLower_breaks]
      rfl
    · rw [State.finish_feeders, State.sendLower_feeders]
      rfl

end Sys2Proof.Machine.TruckRoster
end

section
/-! PROOFS. What dealing with trucks can do to the buffers: the lanes are only offered telegrams, an admission queue within its
bound stays in it, and event records are only added to, none of them one about a lane (R40, R149, R150, R166). A pass, a
release, a crossing, a demand, a feeder report and the end of an event are all of this kind. -/

namespace Sys2Proof.Machine.Admission

/-! ## A port that telegrams have been offered to (R149, R150) -/

/-- A port after telegrams have been offered to its transmit queue, one after another. -/
abbrev Offered : LanePort → LanePort → Prop := Relation.ReflTransGen fun p q => ∃ x, q = p.offer x

/-- Telegrams offered touch the transmit queue and the drop count alone. -/
theorem offered_rest {p q : LanePort} (h : Offered p q) :
    q = { p with tx := q.tx, counts := { p.counts with transmitDrops := q.counts.transmitDrops } } := by
  induction h with
  | refl => rfl
  | @tail b _ _ step ih =>
    obtain ⟨x, rfl⟩ := step
    obtain ⟨rest, counts⟩ := offer_rest b x
    rw [rest, ih]
    rw [ih] at counts
    rcases counts with counts | counts
    · rw [counts]
    · rw [counts]; rfl

theorem offered_state {p q : LanePort} (h : Offered p q) : q.state = p.state := by rw [offered_rest h]

/-- A telegram that may not be replaced stays in the transmit queue, whatever is offered after it (R150). -/
theorem mem_offered {p q : LanePort} {x : OutTelegram} (hr : x.replaceable = false) (h : Offered p q) (hx : x ∈ p.tx) :
    x ∈ q.tx := by
  induction h with
  | refl => exact hx
  | tail _ step ih =>
    obtain ⟨y, rfl⟩ := step
    exact TruckRoster.mem_offer ih hr y

theorem countUp_le (n : Nat) : countUp n ≤ 65535 := Nat.min_le_left _ _

theorem bumpDrops_inRange {c : LaneCounts} (h : c.inRange) : c.bumpDrops.inRange := by
  obtain ⟨accepted, failures, corrected, foreign, overflows, -, unpaired⟩ := h
  exact ⟨accepted, failures, corrected, foreign, overflows, countUp_le _, unpaired⟩

theorem offer_inBounds {p : LanePort} (h : p.inBounds) (x : OutTelegram) : (p.offer x).inBounds := by
  obtain ⟨hrx, htx, hcounts⟩ := h
  obtain ⟨rest, counts⟩ := offer_rest p x
  refine ⟨by rw [rest]; exact hrx, offer_tx_length htx x, ?_⟩
  rcases counts with counts | counts <;> rw [counts]
  · exact hcounts
  · exact bumpDrops_inRange hcounts

theorem offered_inBounds {p q : LanePort} (h : Offered p q) (hp : p.inBounds) : q.inBounds := by
  induction h with
  | refl => exact hp
  | tail _ step ih =>
    obtain ⟨x, rfl⟩ := step
    exact offer_inBounds ih x

/-! ## The relation -/

/-- The kinds of event that are about a lane (10.6): no truck, section or break raises one. -/
def isLaneEvent : EventKind → Bool
  | .laneQuiet => true
  | .pairingDegraded => true
  | .telegramRejected => true
  | _ => false

/-- The second state comes of the first by what dealing with trucks, sections and breaks can do to the buffers. -/
structure Deals (s t : State) : Prop where
  lanes : ∀ l : LaneId, Offered s.lanes[l] t.lanes[l]
  queues : ∀ k : SectionId, s.queues[k].length ≤ 8 → t.queues[k].length ≤ 8
  events : ∀ i : Fin 20, s.events[i].inBounds → t.events[i].inBounds
  laneEvents : ∀ e : EventKind, isLaneEvent e = true → t.events[e.code] = s.events[e.code]
  lastCleared : t.lastCleared = s.lastCleared

/-- The buffers: the lanes, the admission queues, and the event records with their last-cleared copies. -/
def buffers (s : State) : Vector LanePort 4 × Vector (List QueueEntry) 6 × Vector EventRecord 20 × Vector EventRecord 20 :=
  (s.lanes, s.queues, s.events, s.lastCleared)

namespace Deals

variable {s x y : State}

theorem refl (s : State) : Deals s s := ⟨fun _ => .refl, fun _ h => h, fun _ h => h, fun _ _ => rfl, rfl⟩

theorem trans (h : Deals s x) (g : Deals x y) : Deals s y where
  lanes := fun l => (h.lanes l).trans (g.lanes l)
  queues := fun k hk => g.queues k (h.queues k hk)
  events := fun i hi => g.events i (h.events i hi)
  laneEvents := fun e he => (g.laneEvents e he).trans (h.laneEvents e he)
  lastCleared := g.lastCleared.trans h.lastCleared

/-- What touches none of the buffers. -/
theorem same (h : Deals s x) (g : buffers y = buffers x) : Deals s y := by
  simp only [buffers, Prod.mk.injEq] at g
  obtain ⟨lanes, queues, events, cleared⟩ := g
  exact h.trans ⟨fun l => by rw [lanes], fun k => by rw [queues]; exact id, fun i => by rw [events]; exact id,
    fun e _ => by rw [events], cleared⟩

theorem onSection {k : SectionId} {f : SectionRecord → SectionRecord} (h : Deals s x) : Deals s (x.onSection k f) := h.same rfl

theorem onFeeder {k : SectionId} {f : FeederRecord → FeederRecord} (h : Deals s x) : Deals s (x.onFeeder k f) := h.same rfl

theorem onBreak {b : BreakId} {f : BreakRecord → BreakRecord} (h : Deals s x) : Deals s (x.onBreak b f) := h.same rfl

theorem onTruck {t : TruckId} {f : Truck → Truck} (h : Deals s x) : Deals s (x.onTruck t f) := h.same rfl

theorem onSettings {f : Settings → Settings} (h : Deals s x) : Deals s (x.onSettings f) := h.same rfl

theorem setEffective {k : SectionId} {a : Amps} (h : Deals s x) : Deals s (x.setEffective k a) := h.same rfl

theorem touchWindow (h : Deals s x) : Deals s x.touchWindow := h.same rfl

theorem setGapPin {b : BreakId} {high : Bool} (h : Deals s x) : Deals s (x.setGapPin b high) := h.same rfl

theorem ite {c : Prop} [Decidable c] (h : Deals s x) (g : Deals s y) : Deals s (if c then x else y) := by
  split
  exacts [h, g]

theorem foldl {α : Type} {f : State → α → State} (step : ∀ (x : State) (a : α), Deals s x → Deals s (f x a)) (as : List α)
    (h : Deals s x) : Deals s (as.foldl f x) := by
  induction as generalizing x with
  | nil => exact h
  | cons a as ih => exact ih (step x a h)

theorem onQueue {k : SectionId} {f : List QueueEntry → List QueueEntry} (h : Deals s x)
    (hf : x.queues[k].length ≤ 8 → (f x.queues[k]).length ≤ 8) : Deals s (x.onQueue k f) where
  lanes := h.lanes
  queues := fun j hj => by
    rw [State.onQueue_queues, updateAt_get]
    split
    · next e => subst e; exact hf (h.queues _ hj)
    · exact h.queues j hj
  events := h.events
  laneEvents := h.laneEvents
  lastCleared := h.lastCleared

theorem raise {e : EventKind} {subject : Subject} (h : Deals s x) (he : isLaneEvent e = false) :
    Deals s (x.raise e subject) where
  lanes := h.lanes
  queues := h.queues
  events := fun i hi => by
    rw [State.raise_events, updateAt_get]
    split
    · exact occur_inBounds _ _
    · exact h.events i hi
  laneEvents := fun d hd => by
    rw [TruckRoster.raise_events_ne x subject (by rintro rfl; rw [he] at hd; cases hd)]
    exact h.laneEvents d hd
  lastCleared := h.lastCleared

/-! ## Telegrams and the end of an event (R41, R149, R167) -/

theorem sendOn {l : LaneId} {t : OutTelegram} (h : Deals s x) : Deals s (x.sendOn l t) where
  lanes := fun m => by
    rw [TruckRoster.sendOn_lane]
    split
    · exact (h.lanes m).tail ⟨t, rfl⟩
    · exact h.lanes m
  queues := h.queues
  events := h.events
  laneEvents := h.laneEvents
  lastCleared := h.lastCleared

theorem sendRole {r : Role} {t : OutTelegram} (h : Deals s x) : Deals s (x.sendRole r t) := by
  unfold State.sendRole
  split
  exacts [h.sendOn, h]

theorem sendRadio {r : Role} {t : OutTelegram} (h : Deals s x) : Deals s (x.sendRadio t r) := by
  unfold State.sendRadio
  split
  exacts [h.ite h.sendOn, h]

theorem sendTruck {t : OutTelegram} (h : Deals s x) : Deals s (x.sendTruck t) := foldl (fun _ _ h => h.sendRadio) _ h

theorem sendLower {t : TruckId} {r : LowerReason} {b : Option BreakId} {p : Bool} (h : Deals s x) :
    Deals s (x.sendLower t r b p) := h.sendTruck

theorem reply {c : ReplyCode} {a i : Octet} {v : Option ReplyValue} (h : Deals s x) : Deals s (x.reply c a i v) := h.sendRole

theorem sendGrant {before : State} {k : SectionId} {g : Holder} {p : Bool} (h : Deals s x) :
    Deals s (State.sendGrant before x k g p) := h.sendTruck

theorem sendQueued {k : SectionId} {t : TruckId} {p : Bool} (h : Deals s x) : Deals s (x.sendQueued k t p) :=
  h.sendTruck.onQueue fun hq => by rwa [List.length_map]

theorem reportPositions {k : SectionId} (h : Deals s x) : Deals s (x.reportPositions k) :=
  (foldl (fun _ _ h => h.sendTruck) _ h).onQueue fun hq => by rwa [toldFrom_length]

theorem sendEvents {ks : List EventKind} {r : Role} {m : MemberSet} {d : Octet} (h : Deals s x) :
    Deals s (x.sendEvents ks r m d) := by
  unfold State.sendEvents
  split
  exacts [h, h.sendRole]

theorem flushEvents {before : State} (h : Deals s x) : Deals s (State.flushEvents before x) := h.sendEvents.sendEvents

theorem finish {before : State} (h : Deals s x) : Deals s (State.finish before x) :=
  flushEvents (foldl (fun _ _ h => h.reportPositions) allSections h)

/-! ## Places (R21, R40) -/

theorem turnAway {t : TruckId} (h : Deals s x) : Deals s (x.turnAway t) :=
  raise (sendLower (x := x.toIdle t) h.onTruck) rfl

theorem enterQueue {k : SectionId} {t : TruckId} {r : Rank} (h : Deals s x) : Deals s (x.enterQueue k t r) := by
  unfold State.enterQueue
  split
  · exact h.turnAway
  · next q _ ha =>
    have placed : Deals s (x.onQueue k fun _ => q) := h.onQueue fun hq => (arrival_spec hq ha).1
    dsimp only
    split
    · exact turnAway placed.onTruck
    · exact placed.onTruck

theorem stopIdleRestore {k : SectionId} (h : Deals s x) : Deals s (x.stopIdleRestore k) := h.ite h.onFeeder

theorem leaveHolders {k : SectionId} {t : TruckId} {d : Bool} (h : Deals s x) : Deals s (x.leaveHolders k t d) :=
  stopIdleRestore h.onSection

theorem vacate {t : TruckId} {d : Bool} (h : Deals s x) : Deals s (x.vacate t d) := by
  unfold State.vacate
  split
  · exact h
  · split
    · exact h.onTruck
    · next k _ =>
      have left : Deals s (x.onQueue k fun q => q.filter fun e => e.truck ≠ t) :=
        h.onQueue fun hq => (List.length_filter_le _ _).trans hq
      exact onTruck (leaveHolders left.onBreak)

theorem placeReply {before : State} {t : TruckId} (h : Deals s x) : Deals s (State.placeReply before x t) := by
  unfold State.placeReply
  split
  · exact h
  · split
    · exact h.sendLower
    · exact h.sendQueued
    · split
      exacts [h.sendGrant, h]
    · exact h

theorem callPass {k : SectionId} (h : Deals s x) : Deals s (x.callPass k) := h.onSection.ite h

/-! ## The pass (R59 to R76) -/

theorem refuse {b : BreakId} {e : ApproachEntry} {r : LowerReason} (h : Deals s x) : Deals s (x.refuse b e r) :=
  have refused := raise (e := .handoverRefused) (subject := .brk b) (x := x.onBreak b fun r =>
    { r with approaches := r.approaches.map fun x => if x.truck = e.truck then { x with kind := .exit } else x }) h.onBreak rfl
  ite refused.sendLower refused

theorem shedInto {k : SectionId} {t : TruckId} (h : Deals s x) : Deals s (x.shedInto k t) := by
  have told : Deals s (((x.endBoost t).sendLower t .shed).raise .shed (.truck t)) :=
    raise (sendLower (x := x.endBoost t) h.onTruck) rfl
  unfold State.shedInto
  dsimp only
  split
  · exact told.onTruck.ite told.enterQueue
  · exact told

theorem removeLoad {k : SectionId} (h : Deals s x) (g : x.removeLoad k = some y) : Deals s y := by
  unfold State.removeLoad at g
  split at g
  · cases g; exact h.onBreak
  · split at g
    · cases g; exact h.refuse
    · simp only [Option.map_eq_some_iff] at g
      obtain ⟨t, -, rfl⟩ := g
      exact h.leaveHolders.shedInto

theorem deficitLoop {k : SectionId} (n : Nat) (h : Deals s x) : Deals s (deficitLoop k n x) := by
  induction n generalizing x with
  | zero => exact h
  | succ n ih =>
    unfold Machine.deficitLoop
    split
    · exact h
    · split
      · next g => exact ih (h.removeLoad g)
      · exact h

theorem serviceLoop {k : SectionId} (n : Nat) (h : Deals s x) : Deals s (serviceLoop k n x) := by
  induction n generalizing x with
  | zero => exact h
  | succ n ih =>
    unfold Machine.serviceLoop
    split
    · exact h
    · have taken : Deals s (x.onQueue k fun q => q.tail) := h.onQueue fun hq => by rw [List.length_tail]; omega
      exact ite (ih taken.onSection.onTruck) h

theorem admissionService {k : SectionId} (h : Deals s x) : Deals s (x.admissionService k) := h.ite (h.serviceLoop _)

theorem sendGrants {before : State} {k : SectionId} {a : Option TruckId} (h : Deals s x) :
    Deals s (State.sendGrants before x k a) := foldl (fun _ _ h => h.sendGrant) _ h

theorem deficitCheck {k : SectionId} (h : Deals s x) : Deals s (x.deficitCheck k) := h.deficitLoop _

theorem handOff {k : SectionId} (h : Deals s x) : Deals s (x.handOff k) := h.onSection

theorem clearEntries {k : SectionId} (h : Deals s x) : Deals s (x.clearEntries k) := h.onSection

theorem sendLoad {k : SectionId} (h : Deals s x) : Deals s (x.sendLoad k) := h.sendRole

theorem pass {before : State} {k : SectionId} {a : Option TruckId} (h : Deals s x) : Deals s (State.pass before x k a) :=
  ite h.deficitCheck.admissionService.handOff.sendGrants.clearEntries.sendLoad h

theorem passes {before : State} {ks : List SectionId} (h : Deals s x) : Deals s (State.passes before x ks) :=
  foldl (fun _ _ h => h.pass) ks h

theorem release {before : State} {t : TruckId} {r : Option LowerReason} {d : Bool} (h : Deals s x) :
    Deals s (State.release before x t r d) := by
  unfold State.release
  dsimp only
  split
  exacts [h.vacate.sendLower.passes, h.vacate.passes]

theorem rampStep {k : SectionId} {e : RampEntry} (h : Deals s x) : Deals s (x.rampStep k e) := by
  unfold State.rampStep
  dsimp only
  split
  exacts [h.onSection.sendGrant, h.onSection]

/-! ## Crossing a break (R94 to R110) -/

theorem approach {before : State} {b : BreakId} {t : TruckId} (h : Deals s x) : Deals s (State.approach before x b t) := by
  unfold State.approach
  split
  · exact h
  · next g _ =>
    have cut := onSection (k := b) (f := fun r => r.cutToGap x.now t (min x.settings.breaks[b].gapCurrent g.issued) g.issued)
      (onTruck (t := t) (f := fun r => { r with state := .approaching }) (onBreak (b := b) (f := fun r =>
        { r with approaches := r.approaches ++ [{
          truck := t, kind := (x.endBoost t).entryKind b t g.target, state := .approaching,
          gapGrant := min x.settings.breaks[b].gapCurrent g.issued, approachTime := x.now }] })
        (onTruck (t := t) (f := fun r => r.endBoost (x.classOf t) x.now) h)))
    dsimp only
    split
    · exact ite (callPass (pass (ite (raise cut rfl) cut))) (pass (ite (raise cut rfl) cut))
    · exact pass (ite (raise cut rfl) cut)

theorem clear {b : BreakId} {e : ApproachEntry} (h : Deals s x) : Deals s (x.clear b e) :=
  ite h.onBreak.onTruck.sendTruck h.onBreak.onTruck.sendLower

theorem joinHolders {k : SectionId} {g : Holder} (h : Deals s x) : Deals s (x.joinHolders k g) := h.onSection.onTruck

theorem completeExit {before : State} {b : BreakId} {t : TruckId} (h : Deals s x) :
    Deals s (State.completeExit before x b t) := h.vacate.pass

theorem completeHandover {before : State} {b : BreakId} {t : TruckId} {a : Amps} (h : Deals s x) :
    Deals s (State.completeHandover before x b t a) := by
  unfold State.completeHandover
  split
  · exact h.completeExit
  · have left : Deals s ((x.dropApproach b t).leaveHolders b t false) := leaveHolders h.onBreak
    exact passes left.joinHolders

theorem complete {before : State} {b : BreakId} {e : ApproachEntry} {k : EvidenceKind} (h : Deals s x) :
    Deals s (State.complete before x b e k) := by
  have judged : Deals s (if e.isCleared then x else x.raise .earlyCrossing (.truck e.truck)) := h.ite (h.raise rfl)
  unfold State.complete
  dsimp only
  split
  · exact completeHandover judged.onBreak
  · exact completeExit judged.onBreak

theorem lateRelease {before : State} {b : BreakId} {t : TruckId} {r : LowerReason} {c : Option BreakId} (h : Deals s x) :
    Deals s (State.lateRelease before x b t r c) := h.vacate.sendLower.pass

theorem lateCrossing {before : State} {b : BreakId} {t : TruckId} {k : EvidenceKind} (h : Deals s x) :
    Deals s (State.lateCrossing before x b t k) := by
  have late : Deals s ((x.raise .lateCrossing (.truck t)).recordCompletion b t k) := onBreak (h.raise rfl)
  unfold State.lateCrossing
  dsimp only
  split
  · exact late.lateRelease
  · exact ite late.lateRelease (ite (ite late.leaveHolders.joinHolders.passes late.leaveHolders.shedInto.passes) late.lateRelease)

theorem sensorPassage {before : State} {b : BreakId} (h : Deals s x) : Deals s (State.sensorPassage before x b) := by
  unfold State.sensorPassage
  refine ite h.onBreak ?_
  split
  · exact h.complete
  · split
    exacts [h.lateCrossing, h.raise rfl]

theorem passedAt {before : State} {b : BreakId} {t : TruckId} (h : Deals s x) : Deals s (State.passedAt before x b t) := by
  unfold State.passedAt
  split
  · exact h.complete
  · exact ite h (ite h.lateCrossing (placeReply (h.raise rfl)))

theorem passedTelegram {before : State} {k : Nat} {t : TruckId} (h : Deals s x) :
    Deals s (State.passedTelegram before x k t) := by
  unfold State.passedTelegram
  split
  exacts [h.placeReply, ite h.passedAt h.placeReply]

theorem readGap {before : State} {b : BreakId} {high : Bool} (h : Deals s x) : Deals s (State.readGap before x b high) := by
  unfold State.readGap State.selectedEdge
  refine ite ?_ h
  dsimp only
  split
  · exact h.onBreak
  · exact ite h.onBreak (ite (ite (ite h.onBreak.onBreak h.onBreak.onBreak.sensorPassage) h.onBreak) h.onBreak)

theorem cancelCrossing {before : State} {b : BreakId} {e : ApproachEntry} (h : Deals s x) :
    Deals s (State.cancelCrossing before x b e) := by
  have back : Deals s (((x.dropApproach b e.truck).onTruck e.truck fun r => { r with state := .holder }).onSection b fun r =>
      { r with holders := r.holders.map fun h => if h.truck = e.truck then { h with entry := .returned } else h }) :=
    onSection (onTruck h.onBreak)
  have cancelled := onBreak (b := b)
    (f := fun r => { r with lastCancellation := some { truck := e.truck, time := x.now } })
    (back.raise (e := .handoverTimeout) (subject := .truck e.truck) rfl)
  unfold State.cancelCrossing
  dsimp only
  split
  exacts [ite cancelled.pass.pass cancelled.pass, cancelled.pass]

/-! ## Truck telegrams and timers (R26 to R36) -/

theorem passAtTruck {before : State} {t : TruckId} {a : Option TruckId} (h : Deals s x) :
    Deals s (State.passAtTruck before x t a) := by
  unfold State.passAtTruck
  split
  · split
    exacts [h.pass, h]
  · exact h

theorem applyDemand {before : State} {t : TruckId} {a : Amps} {f : Bool} {asked : Option TruckId} (h : Deals s x) :
    Deals s (State.applyDemand before x t a f asked) := by
  have recorded : Deals s (x.recordDemand t a f) := by
    unfold State.recordDemand
    split
    exacts [h.onTruck, h]
  exact recorded.passAtTruck

theorem takeDemand {before : State} {r : Truck} {a : Amps} {f : Bool} {asked : Option TruckId} (h : Deals s x) :
    Deals s (State.takeDemand before x r a f asked) := ite h.applyDemand h.onTruck

theorem applyWaiting {before : State} {r : Truck} (h : Deals s x) : Deals s (State.applyWaiting before x r) := by
  unfold State.applyWaiting
  split
  exacts [ite h.applyDemand h, h]

theorem freshAdmit {before : State} {t : TruckId} {k : Nat} {a : Amps} {f : Bool} (h : Deals s x) :
    Deals s (State.freshAdmit before x t k a f) := by
  unfold State.freshAdmit
  split
  · exact h.sendLower
  · exact ite (ite h.enterQueue.applyDemand h.enterQueue) h.sendLower

theorem tellPlace {before : State} {t : TruckId} {was : TruckState} {p : Bool} (h : Deals s x) :
    Deals s (State.tellPlace before x t was p) := by
  unfold State.tellPlace
  split
  · split
    · exact ite h.sendQueued h
    · split
      exacts [ite h h.sendGrant, h]
    · exact h
  · exact h

theorem admitTelegram {before : State} {r : Truck} {k : Nat} {a : Amps} {f : Bool} (h : Deals s x) :
    Deals s (State.admitTelegram before x r k a f) := by
  unfold State.admitTelegram State.repeatAdmit
  split
  · exact h.freshAdmit
  · exact ite h.takeDemand.tellPlace h.release.freshAdmit
  · exact ite h.takeDemand.tellPlace h.release.freshAdmit
  · exact h.placeReply

theorem byType {before : State} {r : Truck} {m : Inbound} (h : Deals s x) : Deals s (State.byType before x r m) := by
  cases m with
  | truckAdmit => exact h.admitTelegram
  | truckDemand =>
    unfold State.byType State.demandTelegram
    dsimp only
    split
    exacts [h.placeReply, h.takeDemand]
  | truckApproach =>
    unfold State.byType State.approachTelegram
    dsimp only
    split
    exacts [ite h.approach h.placeReply, h.placeReply]
  | truckPassed => exact h.passedTelegram
  | truckLowered =>
    unfold State.byType State.loweredTelegram
    dsimp only
    split
    exacts [h, h.release]
  | _ => exact h

theorem dealt {before : State} {t : TruckId} {m : Inbound} (h : Deals s x) : Deals s (State.dealt before x t m) := by
  unfold State.dealt
  split
  exacts [h.byType, h]

theorem heardAgain {before : State} {t : TruckId} {m : Inbound} (h : Deals s x) :
    Deals s (State.heardAgain before x t m) := by
  have passed : Deals s (if x.isOrdinary t then State.passAtTruck before x t else x) := ite h.passAtTruck h
  unfold State.heardAgain
  dsimp only
  split
  exacts [ite passed passed.applyWaiting, passed]

theorem rosterTelegram {t : TruckId} {m : Inbound} (h : Deals s x) : Deals s (x.rosterTelegram t m) := by
  unfold State.rosterTelegram
  split
  · dsimp only
    split
    exacts [sendLower (h.raise rfl), h.raise rfl]
  · exact ite h.onTruck.heardAgain.dealt h.onTruck.dealt

theorem abandon {before : State} {t : TruckId} (h : Deals s x) : Deals s (State.abandon before x t) := h.release.raise rfl

theorem fallSilent {before : State} {r : Truck} (h : Deals s x) : Deals s (State.fallSilent before x r) := by
  unfold State.fallSilent
  split
  · exact h.release
  · exact ite (abandon (raise h.onTruck rfl)) (passAtTruck (raise h.onTruck rfl))

/-- The end of an event, with the copies that it has handed to the Truck Roster (R41, R152, R154). -/
theorem finishAll {before : State} (h : Deals s x) : Deals s (State.finishAll before x) :=
  foldl (fun _ _ h => h.rosterTelegram.finish) _ (finish (h.same rfl))

/-! ## Feeder supervision (R122 to R139) -/

theorem derate {k : SectionId} (h : Deals s x) : Deals s (x.derate k) := by
  have derated := raise (e := .feederDerated) (subject := .sec k) (setEffective (k := k)
    (a := deratedCapacity x.feeders[k].effective x.settings.fallbackPercentage)
    (h.onFeeder (k := k) (f := fun f => { f with age := .derated }))) rfl
  exact ite (ite derated derated.callPass) h

theorem setHold {t : Option Time} (h : Deals s x) : Deals s (x.setHold t) := h.same rfl

theorem derateAll (h : Deals s x) : Deals s x.derateAll := setHold (foldl (fun _ _ h => h.derate) _ h)

theorem judgeOverdraw {k : SectionId} {a : Amps} (h : Deals s x) : Deals s (x.judgeOverdraw k a) :=
  ite (raise h.onFeeder rfl) h.onFeeder

theorem reportClosed {before : State} {k : SectionId} {f : FeederFigures} (h : Deals s x) :
    Deals s (State.reportClosed before x k f) := by
  have live := setEffective (k := k) (a := effectiveCapacity x.settings.sections[k] f)
    (onSection (k := k) (f := fun r => { r with state := .live })
      (onFeeder (k := k) (f := fun r => { r with lastReport := some f, age := .fresh })
        (ite (c := x.isLive k) (h.judgeOverdraw (k := k) (a := f.current)) h)))
  have restored := ite (c := x.sections[k].state = .dead) (raise (e := .sectionRestored) (subject := .sec k)
    (onFeeder (k := k) (f := fun r => { r with restoreEnd := none }) live) rfl) live
  unfold State.reportClosed
  exact ite (onFeeder (ite restored.pass restored)) (ite restored.pass restored)

theorem suspendTrucks {k : SectionId} (h : Deals s x) : Deals s (x.suspendTrucks k) :=
  foldl (fun _ _ h => h.onTruck.onTruck) _ h

theorem refuseHandovers {k : SectionId} {r : LowerReason} (h : Deals s x) : Deals s (x.refuseHandovers k r) := by
  unfold State.refuseHandovers
  split
  exacts [foldl (fun _ _ h => h.refuse) _ h, h]

theorem passAbove {before : State} {k : SectionId} {es : List ApproachEntry} (h : Deals s x) :
    Deals s (State.passAbove before x k es) := by
  unfold State.passAbove
  split
  exacts [ite h.pass h, h]

theorem goDead {before : State} {k : SectionId} (h : Deals s x) : Deals s (State.goDead before x k) :=
  raise (foldl (fun _ _ h => h.sendLower) _
    (onFeeder (passAbove (refuseHandovers (onBreak (setEffective (onSection h.suspendTrucks))))))) rfl

theorem giveUp {before : State} {k : SectionId} {r : Option LowerReason} (h : Deals s x) :
    Deals s (State.giveUp before x k r) := raise (foldl (fun _ _ h => h.release) _ h) rfl

theorem giveUpAny {before : State} {k : SectionId} {r : Option LowerReason} (h : Deals s x) :
    Deals s (State.giveUpAny before x k r) := ite h.giveUp h

theorem startRestore {before : State} {k : SectionId} (h : Deals s x) : Deals s (State.startRestore before x k) :=
  ite (ite h.giveUp h.onFeeder) h

theorem deadUnreported {k : SectionId} (h : Deals s x) : Deals s (x.deadUnreported k) := raise h.onSection rfl

theorem reportOpen {before : State} {k : SectionId} (h : Deals s x) : Deals s (State.reportOpen before x k) := by
  unfold State.reportOpen
  split
  exacts [h.goDead.startRestore, h, h.deadUnreported, h]

theorem reportLockedOut {before : State} {k : SectionId} (h : Deals s x) :
    Deals s (State.reportLockedOut before x k) := by
  unfold State.reportLockedOut
  refine onFeeder ?_
  split
  exacts [h.goDead.giveUpAny, h.giveUpAny, h.deadUnreported, h]

theorem feederReport {before : State} {n : Nat} {f : FeederFigures} (h : Deals s x) :
    Deals s (State.feederReport before x n f) := by
  unfold State.feederReport
  split
  · exact h
  · refine ite ?_ h
    split
    exacts [h.reportClosed, h.onFeeder.reportLockedOut, h.onFeeder.reportOpen]

theorem restoreTurn {before : State} {k : SectionId} (h : Deals s x) : Deals s (State.restoreTurn before x k) := by
  unfold State.restoreTurn
  split
  exacts [onFeeder (pass (onSection h.onTruck)), h.onFeeder]

/-! ## Settings (R1 to R7, R12 to R14, R22 to R24, R94, R122, R125) -/

theorem emptyOut {k : SectionId} (h : Deals s x) : Deals s (x.emptyOut k) := by
  have called : Deals s ((x.clearApproaches k).callPassAbove k) := by
    unfold State.callPassAbove
    split
    exacts [callPass h.onBreak, h.onBreak]
  exact onSection (foldl (fun _ _ h => h.vacate.sendLower) _ called.refuseHandovers)

theorem markOut {k : SectionId} (h : Deals s x) : Deals s (x.markOut k) := onFeeder h.onSection

theorem enterService {k : SectionId} (h : Deals s x) : Deals s (x.enterService k) :=
  onQueue (onFeeder h.onSection) fun _ => Nat.zero_le _

theorem changeCount {n : Nat} (h : Deals s x) : Deals s (x.changeCount n) :=
  foldl (fun _ _ h => h.onBreak) _ (foldl (fun _ _ h => h.enterService) _ (foldl (fun _ _ h => h.emptyOut) _
    (foldl (fun _ _ h => h.markOut) _ h.onSettings)))

theorem recompute {k : SectionId} (h : Deals s x) : Deals s (x.recompute k) :=
  ite (ite h h.setEffective.callPass) h

theorem recomputeVolts {k : SectionId} (h : Deals s x) : Deals s (x.recomputeVolts k) := ite h h.recompute

theorem setEnabled {k : SectionId} {yes : Bool} (h : Deals s x) : Deals s (x.setEnabled k yes) :=
  ite (ite (enterService h.onSettings) h.onSettings) (ite (emptyOut (markOut h.onSettings)) h.onSettings)

theorem onSectionSettings {k : SectionId} {f : SectionSettings → SectionSettings} (h : Deals s x) :
    Deals s (x.onSectionSettings k f) := h.onSettings

theorem onBreakSettings {b : BreakId} {f : BreakSettings → BreakSettings} (h : Deals s x) :
    Deals s (x.onBreakSettings b f) := h.onSettings

theorem writeSection {i : SectionItem} {k : SectionId} {v : Nat} (h : Deals s x) : Deals s (x.writeSection i k v) := by
  cases i with
  | enabled => exact h.setEnabled
  | rating => exact ite h (recompute h.onSettings)
  | margin => exact ite h (callPass (setEffective h.onSettings))
  | knee | cut => exact recomputeVolts h.onSettings
  | overdrawTolerance | overdrawPersistence | increaseSpacing => exact h.onSectionSettings
  | mode => exact h

theorem writeBreak {i : BreakItem} {b : BreakId} {v : Nat} (h : Deals s x) : Deals s (x.writeBreak i b v) := by
  cases i with
  | gapEnabled => exact onBreak h.onSettings
  | _ => exact h.onBreakSettings

theorem writeClass {i : ClassItem} {c : ClassId} {v : Nat} (h : Deals s x) : Deals s (x.writeClass i c v) :=
  ite h (ite (foldl (fun _ _ h => h.callPass) _ (h.same rfl)) (h.same rfl))

/-! ## Supervisory commands (R11, R19 to R21, R158 to R163) -/

theorem configOpen {v : BitVec 48} (h : Deals s x) : Deals s (x.configOpen v) := ite (reply (h.same rfl)) h.reply

theorem configClose (h : Deals s x) : Deals s x.configClose := reply (h.same rfl)

theorem getCommand {c : Octet} {ms : MemberSet} (h : Deals s x) : Deals s (x.getCommand c ms) := by
  unfold State.getCommand
  repeat' split
  all_goals exact h.reply

theorem setModes {before : State} {ms : MemberSet} {m : Mode} (h : Deals s x) : Deals s (State.setModes before x ms m) := by
  have setModeOf : ∀ (x : State) (k : SectionId), Deals s x → Deals s (State.setModeOf before m x k) := by
    intro x k h
    exact ite h (pass (ite (foldl (fun _ _ h => h.onTruck) _ h.onSettings) h.onSettings))
  unfold State.setModes
  split
  exacts [h.reply, reply (foldl setModeOf _ h)]

theorem enrolCommand {t : TruckId} {n : Nat} (h : Deals s x) : Deals s (x.enrolCommand t n) := by
  have answered : ∀ {y : State}, Deals s y → Deals s (y.enrolReply n) := fun h => ite h.reply h.reply
  unfold State.enrolCommand
  split
  · exact h.reply
  · refine ite ?_ h.reply
    unfold State.enrolTruck
    dsimp only
    split
    · exact ite (answered (h.same rfl)) h.reply
    · exact ite (answered h) (ite (answered h.onTruck) h.reply)

theorem forceOut {before : State} {r : Truck} (h : Deals s x) : Deals s (State.forceOut before x r) := by
  unfold State.forceOut
  split
  exacts [h.sendLower, h.release]

theorem removeTruck {t : TruckId} (h : Deals s x) : Deals s (x.removeTruck t) := h.same rfl

theorem unenrolCommand {before : State} {t : TruckId} (h : Deals s x) : Deals s (State.unenrolCommand before x t) := by
  unfold State.unenrolCommand
  split
  · exact h.reply
  · split
    exacts [h.reply, h.forceOut.removeTruck.reply]

theorem forceRelease {before : State} {t : TruckId} (h : Deals s x) : Deals s (State.forceRelease before x t) := by
  unfold State.forceRelease
  split
  exacts [h.reply, h.forceOut.reply]

theorem readTables {ms : MemberSet} (h : Deals s x) : Deals s (x.readTables ms) := by
  unfold State.readTables
  split
  exacts [h.reply, foldl (fun _ _ h => h.sendRole) _ h]

theorem storeCommand (h : Deals s x) : Deals s x.storeCommand := by
  unfold State.storeCommand
  split
  exacts [h.reply, h.same rfl]

theorem completeStore {job : StoreJob} (h : Deals s x) : Deals s (x.completeStore job) := reply (h.same rfl)

theorem lockCommand (h : Deals s x) : Deals s x.lockCommand := by
  unfold State.lockCommand
  split
  exacts [h.reply, reply (h.same rfl)]

end Deals

end Sys2Proof.Machine.Admission
end

section
/-! PROOFS. The buffers stay in their bounds through every step (R40, R147, R149, R151, R166). -/

namespace Sys2Proof.Machine.Admission

/-! ## Ports in their bounds (R147, R149, R151) -/

section

variable {c : LaneCounts} (h : c.inRange)
include h

theorem bumpAccepted_inRange : c.bumpAccepted.inRange := by
  obtain ⟨-, failures, corrected, foreign, overflows, drops, unpaired⟩ := h
  exact ⟨countUp_le _, failures, corrected, foreign, overflows, drops, unpaired⟩

theorem bumpCheckFailures_inRange : c.bumpCheckFailures.inRange := by
  obtain ⟨accepted, -, corrected, foreign, overflows, drops, unpaired⟩ := h
  exact ⟨accepted, countUp_le _, corrected, foreign, overflows, drops, unpaired⟩

theorem bumpCorrected_inRange : c.bumpCorrected.inRange := by
  obtain ⟨accepted, failures, -, foreign, overflows, drops, unpaired⟩ := h
  exact ⟨accepted, failures, countUp_le _, foreign, overflows, drops, unpaired⟩

theorem bumpForeign_inRange : c.bumpForeign.inRange := by
  obtain ⟨accepted, failures, corrected, -, overflows, drops, unpaired⟩ := h
  exact ⟨accepted, failures, corrected, countUp_le _, overflows, drops, unpaired⟩

theorem bumpOverflows_inRange : c.bumpOverflows.inRange := by
  obtain ⟨accepted, failures, corrected, foreign, -, drops, unpaired⟩ := h
  exact ⟨accepted, failures, corrected, foreign, countUp_le _, drops, unpaired⟩

theorem bumpUnpaired_inRange : c.bumpUnpaired.inRange := by
  obtain ⟨accepted, failures, corrected, foreign, overflows, drops, -⟩ := h
  exact ⟨accepted, failures, corrected, foreign, overflows, drops, countUp_le _⟩

end

/-- A port that has queued nothing and counted nothing is in its bounds. -/
theorem inBounds_of_empty {p : LanePort} (hrx : p.rx = []) (htx : p.tx = []) (hc : p.counts = LaneCounts.zero) :
    p.inBounds := by
  refine ⟨by simp [hrx], by simp [htx], ?_⟩
  rw [hc]
  simp [LaneCounts.inRange, LaneCounts.zero]

@[simp] theorem dropTx_state (p : LanePort) : p.dropTx.state = p.state := by simp [LanePort.dropTx]
@[simp] theorem dropTx_rx (p : LanePort) : p.dropTx.rx = p.rx := by simp [LanePort.dropTx]
@[simp] theorem dropTx_tx (p : LanePort) : p.dropTx.tx = [] := by simp [LanePort.dropTx]
@[simp] theorem dropTx_counts (p : LanePort) : p.dropTx.counts = p.counts := by simp [LanePort.dropTx]

section

variable {p : LanePort} (h : p.inBounds)
include h

theorem inBounds_withCounts {c : LaneCounts} (hc : p.counts.inRange → c.inRange) : LanePort.inBounds { p with counts := c } := by
  obtain ⟨hrx, htx, hcounts⟩ := h
  exact ⟨hrx, htx, hc hcounts⟩

theorem dropTx_inBounds : p.dropTx.inBounds := by
  obtain ⟨hrx, -, hcounts⟩ := h
  exact ⟨by simpa, by simp, by simpa⟩

theorem settleRate_inBounds : p.settleRate.inBounds := by simpa [LanePort.inBounds] using h

theorem failFrame_inBounds : p.failFrame.inBounds := inBounds_withCounts h bumpCheckFailures_inRange

theorem accept_inBounds (e : RxEntry) : (p.accept e).inBounds := by
  obtain ⟨hrx, htx, hcounts⟩ := h
  unfold LanePort.accept
  split
  · exact ⟨by rw [List.length_append, List.length_singleton]; omega, htx, bumpAccepted_inRange hcounts⟩
  · exact ⟨hrx, htx, bumpOverflows_inRange hcounts⟩

end

theorem restart_inBounds (p : LanePort) : p.restart.inBounds :=
  inBounds_of_empty (by simp [LanePort.restart]) (by simp [LanePort.restart]) (by simp [LanePort.restart])

end Sys2Proof.Machine.Admission

/-! ## What keeps the bounds -/

namespace Sys2Proof.Machine.State.boundsLaw

open Admission

variable {s t : State}

/-- Dealing with trucks keeps every buffer in its bounds. -/
theorem deals (h : s.boundsLaw) (g : Deals s t) : t.boundsLaw := by
  obtain ⟨queues, lanes, events, cleared⟩ := h
  exact ⟨fun k => g.queues k (queues k), fun l => offered_inBounds (g.lanes l) (lanes l),
    fun i => g.events i (events i), by rw [g.lastCleared]; exact cleared⟩

theorem onLane {l : LaneId} {f : LanePort → LanePort} (h : s.boundsLaw) (hf : ∀ p : LanePort, p.inBounds → (f p).inBounds) :
    (s.onLane l f).boundsLaw := by
  obtain ⟨queues, lanes, events, cleared⟩ := h
  refine ⟨queues, fun m => ?_, events, cleared⟩
  rw [State.onLane_lanes, updateAt_get]
  split
  · exact hf _ (lanes l)
  · exact lanes m

theorem raise {e : EventKind} {subject : Subject} (h : s.boundsLaw) : (s.raise e subject).boundsLaw := by
  obtain ⟨queues, lanes, events, cleared⟩ := h
  refine ⟨queues, lanes, fun i => ?_, cleared⟩
  rw [State.raise_events, updateAt_get]
  split
  · exact occur_inBounds _ _
  · exact events i

theorem clearEvent {e : EventKind} (h : s.boundsLaw) : (s.clearEvent e).boundsLaw := by
  obtain ⟨queues, lanes, events, cleared⟩ := h
  refine ⟨queues, lanes, fun i => ?_, fun i => ?_⟩
  · simp only [State.clearEvent, updateAt_get]
    split
    · exact ⟨by decide, by decide⟩
    · exact events i
  · simp only [State.clearEvent, updateAt_get]
    split
    · exact events _
    · exact cleared i

theorem ite {c : Prop} [Decidable c] (h : s.boundsLaw) (g : t.boundsLaw) : (if c then s else t).boundsLaw := by
  split
  exacts [h, g]

theorem foldl {α : Type} {f : State → α → State} (step : ∀ (x : State) (a : α), x.boundsLaw → (f x a).boundsLaw)
    (as : List α) (h : s.boundsLaw) : (as.foldl f s).boundsLaw := by
  induction as generalizing s with
  | nil => exact h
  | cons a as ih => exact ih (step s a h)

/-! ## Pairing (R152 to R154) -/

theorem countUnpaired {l : LaneId} (h : s.boundsLaw) : (s.countUnpaired l).boundsLaw :=
  h.onLane fun _ hp => inBounds_withCounts hp bumpUnpaired_inRange

theorem setSlot {x : TruckId} {c : Option RadioCopy} (h : s.boundsLaw) : (s.setSlot x c).boundsLaw :=
  h.deals (Deals.refl s).onTruck

theorem rosterTelegram {x : TruckId} {m : Inbound} (h : s.boundsLaw) : (s.rosterTelegram x m).boundsLaw :=
  h.deals (Deals.refl s).rosterTelegram

theorem pairTelegram {l : LaneId} {x : TruckId} {m : Inbound} (h : s.boundsLaw) : (s.pairTelegram l x m).boundsLaw := by
  unfold State.pairTelegram
  split
  · unfold State.pairEither
    split
    · exact h.rosterTelegram
    · split
      exacts [ite h.setSlot h.setSlot.rosterTelegram, h.setSlot.rosterTelegram]
  · refine ite h.rosterTelegram ?_
    unfold State.pairBoth
    split
    · exact h.countUnpaired
    · split
      · exact h.setSlot
      · exact ite h.countUnpaired.setSlot (ite (ite h.countUnpaired h.setSlot.rosterTelegram) h.countUnpaired.setSlot)
  · exact ite h.rosterTelegram h
  · exact ite h.rosterTelegram h

theorem emptySlots (h : s.boundsLaw) : s.emptySlots.boundsLaw := h.deals ((Deals.refl s).same rfl)

theorem setDegraded {d : Bool} (h : s.boundsLaw) : (s.setDegraded d).boundsLaw := h.deals ((Deals.refl s).same rfl)

theorem settleCopy {c : TruckId × RadioCopy} (h : s.boundsLaw) : (s.settleCopy c).boundsLaw :=
  ite (h.deals ((Deals.refl s).same rfl)) h.countUnpaired

theorem updateDegraded {cause : Option LaneId} (h : s.boundsLaw) : (s.updateDegraded cause).boundsLaw := by
  refine ite (ite h (foldl (fun _ _ h => h.settleCopy) _ (emptySlots ?_))) h.setDegraded
  split
  exacts [h.setDegraded.raise, h.setDegraded]

theorem forgetCopies (h : s.boundsLaw) : s.forgetCopies.boundsLaw :=
  ite (foldl (fun _ _ h => h.countUnpaired) _ h).emptySlots h.emptySlots

/-! ## Lane states and frames (R144 to R148) -/

theorem resyncRepeat {l : LaneId} (h : s.boundsLaw) : (s.resyncRepeat l).boundsLaw := by
  unfold State.resyncRepeat
  split
  · exact ite ((h.onLane (f := fun p => { p with resyncRepeated := true }) fun _ hp => hp).deals (Deals.refl _).sendOn) h
  · exact h

theorem laneHeard {l : LaneId} (h : s.boundsLaw) : (s.laneHeard l).boundsLaw :=
  have live := h.onLane (l := l) (f := fun p => { p with silenceStart := s.now, state := .live }) fun _ hp => hp
  ite live (ite live.resyncRepeat.updateDegraded live)

theorem startHold (h : s.boundsLaw) : s.startHold.boundsLaw :=
  have held : Deals s s.holdReports := (Deals.refl s).same rfl
  h.deals (.ite held.derateAll held.setHold)

theorem laneQuiet {l : LaneId} (h : s.boundsLaw) : (s.laneQuiet l).boundsLaw := by
  have quiet := raise (e := .laneQuiet) (subject := .lane l)
    (h.onLane (l := l) (f := fun p => { p with state := .quiet }) fun _ hp => hp)
  have dropped := quiet.onLane (l := l) (f := LanePort.dropTx) fun _ => dropTx_inBounds
  unfold State.laneQuiet
  dsimp only
  split
  exacts [quiet.startHold, dropped.updateDegraded, dropped.updateDegraded, quiet]

theorem validTelegram {l : LaneId} {c : Octet} {f : Frame} (h : s.boundsLaw) : (s.validTelegram l c f).boundsLaw := by
  unfold State.validTelegram
  refine ite ?_ (h.laneHeard.onLane fun _ hp => inBounds_withCounts hp bumpForeign_inRange)
  split
  · exact h.laneHeard.onLane fun _ hp => accept_inBounds hp _
  · exact h.laneHeard.raise

theorem failFrame {l : LaneId} (h : s.boundsLaw) : (s.onLane l LanePort.failFrame).boundsLaw :=
  h.onLane fun _ => failFrame_inBounds

theorem judgeFrame {l : LaneId} {os : List Octet} (h : s.boundsLaw) : (s.judgeFrame l os).boundsLaw := by
  unfold State.judgeFrame
  split
  · exact h.failFrame
  · split
    · exact h.failFrame
    · refine ite (validTelegram (h.onLane fun p hp => inBounds_withCounts hp fun hc => ?_)) h.failFrame
      split
      exacts [bumpCorrected_inRange hc, hc]

theorem finish {before : State} (h : s.boundsLaw) : (State.finish before s).boundsLaw := h.deals (Deals.refl s).finish

theorem finishAll {before : State} (h : s.boundsLaw) : (State.finishAll before s).boundsLaw :=
  h.deals (Deals.refl s).finishAll

theorem receiveOctet {l : LaneId} {o : LineOctet} (h : s.boundsLaw) : (s.receiveOctet l o).boundsLaw := by
  have collects : ∀ os : List Octet, (s.onLane l fun p => { p with partialFrame := os, lastOctet := s.now }).boundsLaw :=
    fun os => h.onLane fun _ hp => hp
  unfold State.receiveOctet
  split
  · exact ite (collects _) h
  · refine ite h.failFrame ?_
    dsimp only
    split
    · exact ite h.failFrame (ite h.judgeFrame.finishAll (collects _))
    · exact collects _

theorem popRx {l : LaneId} (h : s.boundsLaw) : (s.popRx l).boundsLaw :=
  h.onLane fun p ⟨hrx, htx, hc⟩ => ⟨by rw [List.length_tail]; omega, htx, hc⟩

theorem takeRx {l : LaneId} {e : RxEntry} (h : s.boundsLaw) (g : s.takeRx l e = some t) : t.boundsLaw := by
  rw [(takeRx_eq_some.mp g).2]
  exact h.popRx

/-! ## Settings of lanes and pairing (R142, R143, R156) -/

theorem leaveRole {l : LaneId} (h : s.boundsLaw) : (s.leaveRole l).boundsLaw := by
  have quiet := ite (c := s.settings.lanes[l].role != .unused && s.lanes[l].state != .quiet) (h.laneQuiet (l := l)) h
  unfold State.leaveRole
  dsimp only
  exact onLane (ite quiet.forgetCopies quiet) fun p ⟨_, htx, hc⟩ => dropTx_inBounds ⟨Nat.zero_le _, htx, hc⟩

theorem onSettings {f : Settings → Settings} (h : s.boundsLaw) : (s.onSettings f).boundsLaw :=
  h.deals (Deals.refl s).onSettings

theorem changeRole {l : LaneId} {r : Role} (h : s.boundsLaw) : (s.changeRole l r).boundsLaw :=
  updateDegraded (onSettings (h.leaveRole.onLane fun _ hp => hp))

theorem setRole {l : LaneId} {r : Role} (h : s.boundsLaw) : (s.setRole l r).boundsLaw := by
  unfold State.setRole
  refine ite h ?_
  split
  exacts [h.changeRole.changeRole, h.changeRole]

theorem writeLane {i : LaneItem} {l : LaneId} {v : Nat} (h : s.boundsLaw) : (s.writeLane i l v).boundsLaw := by
  cases i with
  | role => exact h.setRole
  | lineRate => exact ite h (onLane h.onSettings fun _ hp => hp)
  | silenceLimit => exact onSettings h
  | _ => exact h

theorem setPairingMode {m : PairingMode} (h : s.boundsLaw) : (s.setPairingMode m).boundsLaw :=
  ite h h.forgetCopies.onSettings.updateDegraded

theorem writePart {i : PartItem} {v : Nat} (h : s.boundsLaw) : (s.writePart i v).boundsLaw := by
  cases i with
  | sectionCount => exact ite h (h.deals (Deals.refl s).changeCount)
  | pairingMode => exact h.setPairingMode
  | cabinetIdentity | lockCell => exact h
  | _ => exact onSettings h

theorem writeMember {i : Item} {m : Member} {v : Nat} (h : s.boundsLaw) : (s.writeMember i m v).boundsLaw := by
  unfold State.writeMember
  split
  exacts [h.writePart, h.deals (Deals.refl s).writeSection, h.deals (Deals.refl s).writeBreak,
    h.deals (Deals.refl s).writeClass, h.writeLane, h]

theorem settleRates {before : State} {l : LaneId} (h : s.boundsLaw) : (State.settleRates before s l).boundsLaw :=
  foldl (fun _ _ h => h.onLane fun _ => settleRate_inBounds) _ (ite h (h.onLane fun _ hp => hp))

theorem reply {c : ReplyCode} {a i : Octet} {v : Option ReplyValue} (h : s.boundsLaw) : (s.reply c a i v).boundsLaw :=
  h.deals (Deals.refl s).reply

theorem writeMembers {i : Item} {ms : List Member} {v : Nat} (h : s.boundsLaw) : (s.writeMembers i ms v).boundsLaw :=
  foldl (fun _ _ h => h.writeMember) _ h

theorem setCommand {l : LaneId} {c : Octet} {ms : MemberSet} {v : Nat} (h : s.boundsLaw) :
    (State.setCommand l s c ms v).boundsLaw := by
  unfold State.setCommand
  split
  · exact h.reply
  · refine ite h.reply ?_
    split
    · exact h.reply
    · split
      · exact h.reply
      · unfold State.performSet
        exact h.writeMembers.reply.settleRates

/-! ## Event records and resets (R163 to R168) -/

theorem clearEvents {ms : MemberSet} (h : s.boundsLaw) : (s.clearEvents ms).boundsLaw := by
  unfold State.clearEvents
  split
  exacts [h.reply, (foldl (fun _ _ h => h.clearEvent) _ h).reply]

/-- Empty queues, clear records and lanes in their bounds obey the law, whatever stood before. -/
theorem of_cleared (roster : List Enrolment) (lanes : ∀ l : LaneId, t.lanes[l].inBounds)
    (queues : t.queues = (s.clearBlocks roster).queues) (events : t.events = (s.clearBlocks roster).events)
    (cleared : t.lastCleared = (s.clearBlocks roster).lastCleared) : t.boundsLaw := by
  have clear : EventRecord.clear.inBounds := ⟨by decide, by decide⟩
  refine ⟨fun k => ?_, lanes, fun i => ?_, fun i => ?_⟩
  · simp [queues, State.clearBlocks]
  · simpa [events, State.clearBlocks] using clear
  · simpa [cleared, State.clearBlocks] using clear

theorem openResync (h : s.boundsLaw) : s.openResync.boundsLaw := ite h (h.deals (.sendTruck (.same (.refl s) rfl)))

theorem restart (s : State) : s.restart.boundsLaw := by
  refine openResync (reply (of_cleared (s := s) (s.roster.map fun r => { truck := r.id, cls := r.cls }) (fun l => ?_)
    rfl rfl rfl))
  have restarted : ∀ lanes : Vector LanePort 4, (lanes.map LanePort.restart)[l].inBounds := fun lanes => by
    simpa using restart_inBounds _
  exact restarted _

theorem powerOnReset (s : State) (maintHigh : Bool) : (s.powerOnReset maintHigh).boundsLaw := by
  have reported : ∀ {x : State}, x.boundsLaw → x.reportStore.boundsLaw := by
    intro x h
    unfold State.reportStore
    split
    exacts [h.deals ((Deals.refl x).raise rfl).flushEvents, h]
  refine reported (openResync (of_cleared
    (s := { s.interruptStore.sampleMaint maintHigh with settings := (s.interruptStore.sampleMaint maintHigh).storeCell.settings })
    (s.interruptStore.sampleMaint maintHigh).storeCell.roster (fun l => ?_) rfl rfl rfl))
  have fresh : ∀ (now : Time) (rates : LaneId → Nat),
      (Vector.ofFn fun l : LaneId => LanePort.fresh now (rates l))[l].inBounds := fun now rates => by
    simpa using inBounds_of_empty (p := LanePort.fresh now (rates l)) rfl rfl rfl
  exact fresh _ _

end Sys2Proof.Machine.State.boundsLaw
end

section
/-! PROOFS. Every command keeps the buffers in their bounds (R40, R147, R149, R151, R166). -/

namespace Sys2Proof.Machine.Admission

variable {s t : State}

/-! ## Kinds of command -/

theorem whileRunning_bounded {f : State → State} (hs : s.boundsLaw) (h : whileRunning s f = .next t)
    (hf : (f s).boundsLaw) : t.boundsLaw := by
  unfold whileRunning at h
  cases h
  exact hf.ite hs

/-- A command that deals with trucks, sections or breaks. -/
theorem whileRunning_deals {f : State → State} (hs : s.boundsLaw) (h : whileRunning s f = .next t) (hf : Deals s (f s)) :
    t.boundsLaw := whileRunning_bounded hs h (hs.deals hf)

theorem truckCommand_bounded {l : LaneId} {src : TruckId} {m : Inbound} (hs : s.boundsLaw)
    (h : truckCommand l src m s = .next t) : t.boundsLaw := by
  refine whileRunning_bounded hs h ?_
  split
  · next taken => exact (hs.takeRx taken).pairTelegram.finish
  · exact hs

theorem superCommand_bounded {m : Inbound} {f : LaneId → State → State → State} (hs : s.boundsLaw)
    (h : superCommand m f s = .next t) (hf : ∀ l before x, x.boundsLaw → (f l before x).boundsLaw) : t.boundsLaw := by
  refine whileRunning_bounded hs h ?_
  split
  · exact hs
  · split
    · next taken => exact (hf _ _ _ ((hs.takeRx taken).deals (Deals.refl _).touchWindow)).finishAll
    · exact hs

/-- A supervisory command that deals with trucks, sections or breaks. -/
theorem superCommand_deals {m : Inbound} {f : LaneId → State → State → State} (hs : s.boundsLaw)
    (h : superCommand m f s = .next t) (hf : ∀ l before x, Deals x (f l before x)) : t.boundsLaw :=
  superCommand_bounded hs h fun l before x hx => hx.deals (hf l before x)

theorem interruptStore_deals (s : State) : Deals s s.interruptStore := by
  unfold State.interruptStore
  split
  exacts [(Deals.refl s).same rfl, Deals.refl s]

/-- The timers of a truck, a section and a break. -/
theorem timer_deals {before x : State} {c : Prop} [Decidable c] (h : Deals s x) :
    Deals s (if c then State.finish before x else s) := .ite h.finish (.refl s)

/-! ## Every command -/

theorem exec_keeps_bounds {c : Instr} (hs : s.boundsLaw) (h : exec c s = .next t) : t.boundsLaw := by
  have here := Deals.refl s
  cases c with
  | powerOn maintHigh => cases h; exact .powerOnReset _ maintHigh
  | powerLoss => cases h; exact hs.deals ((interruptStore_deals s).same rfl)
  | resetAssert => cases h; exact hs.deals ((interruptStore_deals s).same rfl)
  | resetRelease maintHigh =>
    cases h
    exact .ite (.ite (.powerOnReset _ maintHigh) (hs.deals (here.same rfl))) hs
  | gapInputEdge gap high =>
    simp only [exec, execGapInputEdge] at h
    split at h
    · cases h; exact hs
    · exact whileRunning_deals (hs.deals here.setGapPin) h (Deals.refl _).readGap.finish
  | frame l os =>
    simp only [exec, execFrame] at h
    exact whileRunning_bounded hs h (.ite hs (.foldl (fun _ _ h => h.receiveOctet) os hs))
  | frameTimeout l =>
    simp only [exec, execFrameTimeout] at h
    exact whileRunning_bounded hs h (.ite hs.failFrame hs)
  | transmitStart l =>
    simp only [exec, execTransmitStart] at h
    refine whileRunning_bounded hs h (.ite (hs.onLane fun p hp => ?_) hs)
    obtain ⟨hrx, htx, hc⟩ := hp
    exact ⟨hrx, by rw [List.length_tail]; omega, hc⟩
  | transmitEnd l =>
    simp only [exec, execTransmitEnd] at h
    refine whileRunning_bounded hs h (hs.onLane fun p hp => ?_)
    split
    · exact settleRate_inBounds (p := { p with sending := none, rateChanges := _ }) hp
    · exact hp
  | linkBeacon l status =>
    simp only [exec, execLinkBeacon] at h
    refine whileRunning_bounded hs h ?_
    cases taken : s.takeRx l
        { src := if s.settings.lanes[l].role = .radioA then 0xF8 else 0xF9, telegram := .linkBeacon status } with
    | none => exact hs
    | some x => exact hs.takeRx taken
  | truckAdmit | truckDemand | truckApproach | truckPassed | truckLowered => exact truckCommand_bounded hs h
  | feederReport feeder breaker capacity current volts =>
    simp only [exec, execFeederReport] at h
    refine whileRunning_bounded hs h ?_
    split
    · exact hs
    · split
      · next taken => exact (hs.takeRx taken).deals (Deals.refl _).feederReport.finish
      · exact hs
  | configOpen v =>
    simp only [exec, execConfigOpen] at h
    exact superCommand_deals hs h fun _ _ x => (Deals.refl x).configOpen
  | configClose =>
    simp only [exec, execConfigClose] at h
    exact superCommand_deals hs h fun _ _ x => (Deals.refl x).configClose
  | setItem i ms v =>
    simp only [exec, execSetItem] at h
    exact superCommand_bounded hs h fun _ _ _ hx => hx.setCommand
  | getItem i ms =>
    simp only [exec, execGetItem] at h
    exact superCommand_deals hs h fun _ _ x => (Deals.refl x).getCommand
  | setMode ms m =>
    simp only [exec, execSetMode] at h
    exact superCommand_deals hs h fun _ _ x => (Deals.refl x).setModes
  | enrol v n =>
    simp only [exec, execEnrol] at h
    exact superCommand_deals hs h fun _ _ x => (Deals.refl x).enrolCommand
  | unenrol v =>
    simp only [exec, execUnenrol] at h
    exact superCommand_deals hs h fun _ _ x => (Deals.refl x).unenrolCommand
  | forceRelease v =>
    simp only [exec, execForceRelease] at h
    exact superCommand_deals hs h fun _ _ x => (Deals.refl x).forceRelease
  | readTable ms =>
    simp only [exec, execReadTable] at h
    exact superCommand_deals hs h fun _ _ x => (Deals.refl x).readTables
  | clearEvents ms =>
    simp only [exec, execClearEvents] at h
    exact superCommand_bounded hs h fun _ _ _ hx => hx.clearEvents
  | store =>
    simp only [exec, execStore] at h
    exact superCommand_deals hs h fun _ _ x => (Deals.refl x).storeCommand
  | commissionLock =>
    simp only [exec, execCommissionLock] at h
    exact superCommand_deals hs h fun _ _ x => (Deals.refl x).lockCommand
  | restart =>
    simp only [exec, execRestart] at h
    exact superCommand_bounded hs h fun _ _ x _ => .restart x
  | storeCompletion =>
    simp only [exec, execStoreCompletion] at h
    refine whileRunning_deals hs h ?_
    split
    exacts [.ite here.completeStore here, here]
  | laneSilenceExpiry l =>
    simp only [exec, execLaneSilenceExpiry] at h
    exact whileRunning_bounded hs h (.ite hs.laneQuiet.finishAll hs)
  | pairingWindowEnd x =>
    simp only [exec, execPairingWindowEnd] at h
    refine whileRunning_bounded hs h ?_
    split
    exacts [.ite hs.countUnpaired.setSlot hs, hs]
  | demandIntervalEnd x =>
    simp only [exec, execDemandIntervalEnd] at h
    refine whileRunning_deals hs h ?_
    split
    exacts [timer_deals here.applyWaiting, here]
  | boostExpiry x =>
    simp only [exec, execBoostExpiry] at h
    refine whileRunning_deals hs h ?_
    have expired := (here.onTruck (t := x) (f := fun r => r.endBoost (s.classOf x) s.now)).raise
      (e := .boostExpired) (subject := .truck x) rfl
    split
    exacts [timer_deals (.ite expired.passAtTruck expired), here]
  | cooldownEnd x =>
    simp only [exec, execCooldownEnd] at h
    refine whileRunning_deals hs h ?_
    split
    exacts [.ite here.onTruck here, here]
  | silenceLimitExpiry x =>
    simp only [exec, execSilenceLimitExpiry] at h
    refine whileRunning_deals hs h ?_
    split
    exacts [timer_deals here.fallSilent, here]
  | abandonment x =>
    simp only [exec, execAbandonment] at h
    refine whileRunning_deals hs h ?_
    split
    exacts [timer_deals here.abandon, here]
  | resyncWindowClose =>
    simp only [exec, execResyncWindowClose] at h
    exact whileRunning_deals hs h (.ite (here.same rfl) here)
  | refreshTimerExpiry =>
    simp only [exec, execRefreshTimerExpiry] at h
    exact whileRunning_deals hs h (.ite (.foldl (fun _ _ h => h.callPass) _ (here.same rfl)) here)
  | allocationPass k =>
    simp only [exec, execAllocationPass] at h
    exact whileRunning_deals hs h here.onSection.pass.finish
  | rampStep k =>
    simp only [exec, execRampStep] at h
    refine whileRunning_deals hs h ?_
    split
    exacts [here.rampStep, here]
  | clearance b x =>
    simp only [exec, execClearance] at h
    refine whileRunning_deals hs h ?_
    split
    exacts [.ite here.clear here, here]
  | gapTimeout b x =>
    simp only [exec, execGapTimeout] at h
    refine whileRunning_deals hs h ?_
    split
    exacts [timer_deals here.cancelCrossing, here]
  | feederHoldExpiry =>
    simp only [exec, execFeederHoldExpiry] at h
    exact whileRunning_deals hs h (timer_deals here.derateAll)
  | restoreTurn k =>
    simp only [exec, execRestoreTurn] at h
    exact whileRunning_deals hs h (timer_deals here.restoreTurn)
  | restoreLapse k =>
    simp only [exec, execRestoreLapse] at h
    exact whileRunning_deals hs h (timer_deals here.giveUp.onFeeder)
  | windowTimerExpiry =>
    simp only [exec, execWindowTimerExpiry] at h
    exact whileRunning_deals hs h (.ite (here.same rfl) here)

/-- A part with no command waiting touches no buffer. -/
theorem idle_deals (s : State) : Deals s s.idle := by
  have here := Deals.refl s
  have read : ∀ (x : State) (b : BreakId), Deals s x → Deals s (x.readReference b) := fun _ _ h => h.onBreak.ite h
  have later : ∀ {x : State} {now : Time}, Deals s x → Deals s { x with now := now } := fun h => h.same rfl
  unfold State.idle
  refine .ite ?_ here
  split
  exacts [later (.foldl read _ here), here.same rfl]

/-- Settles O51: dealing with trucks only offers telegrams, keeps queues of 8 and counts occurrences; what the lanes and the
resets do keeps each port and record in its bounds. -/
theorem buffersStayBounded : Obligations.BuffersStayBounded := by
  unfold Obligations.BuffersStayBounded
  intro s t hs h
  unfold step at h
  split at h
  · cases h
    exact hs.deals (idle_deals s)
  · next c rest _ => exact exec_keeps_bounds (s := { s with pending := rest }) (hs.deals ((Deals.refl s).same rfl)) h

end Sys2Proof.Machine.Admission
end

section
/-! PROOFS. Every queued truck has been told its position after every step (R41): most commands end with the position reports,
and the others leave the queues as they are or empty them. -/

namespace Sys2Proof.Machine.Admission

variable {s t : State}

/-! ## Ends of events -/

/-- The end of an event tells every queue its positions (R41). -/
theorem finish_told (before s : State) : (State.finish before s).positionsTold := by
  intro k
  simp

theorem finishAll_told (before s : State) : (State.finishAll before s).positionsTold := by
  have dealt : ∀ (cs : List (TruckId × Inbound)) (x : State), x.positionsTold → (cs.foldl State.dealHanded x).positionsTold := by
    intro cs
    induction cs with
    | nil => exact fun _ hx => hx
    | cons c cs ih => exact fun _ _ => ih _ (finish_told _ _)
  exact dealt _ _ (finish_told _ _)

theorem told_ite {c : Prop} [Decidable c] (hs : s.positionsTold) (ht : t.positionsTold) :
    (if c then s else t).positionsTold := by
  split
  exacts [hs, ht]

theorem told_of_empty (h : t.queues = Vector.replicate 6 []) : t.positionsTold := by
  intro k
  rw [h]
  simp [staleFrom]

/-! ## Operations that leave the queues alone -/

@[simp] theorem callPass_queues (s : State) (k : SectionId) : (s.callPass k).queues = s.queues := by
  unfold State.callPass
  split <;> simp

@[simp] theorem rampStep_queues (s : State) (k : SectionId) (e : RampEntry) : (s.rampStep k e).queues = s.queues := by
  unfold State.rampStep
  dsimp only
  split <;> simp

@[simp] theorem clear_queues (s : State) (b : BreakId) (e : ApproachEntry) : (s.clear b e).queues = s.queues := by
  unfold State.clear
  dsimp only
  split <;> simp

@[simp] theorem interruptStore_queues (s : State) : s.interruptStore.queues = s.queues := by
  unfold State.interruptStore
  split <;> rfl

@[simp] theorem openResync_queues (s : State) : s.openResync.queues = s.queues := by
  unfold State.openResync
  split <;> simp

@[simp] theorem reportStore_queues (s : State) : s.reportStore.queues = s.queues := by
  unfold State.reportStore
  split <;> simp

@[simp] theorem powerOnReset_queues (s : State) (maintHigh : Bool) :
    (s.powerOnReset maintHigh).queues = Vector.replicate 6 [] := by
  simp [State.powerOnReset, State.freshLanes, State.clearBlocks]

@[simp] theorem readReference_queues (s : State) (b : BreakId) : (s.readReference b).queues = s.queues := by
  unfold State.readReference
  split <;> simp

theorem tick_queues (s : State) : s.tick.queues = s.queues := by
  unfold State.tick
  dsimp only
  exact foldl_keeps State.queues _ readReference_queues allBreaks s

theorem idle_queues (s : State) : s.idle.queues = s.queues := by
  unfold State.idle
  split
  · split
    · exact tick_queues s
    · rfl
  · rfl

theorem receiveOctet_told {l : LaneId} {o : LineOctet} (hs : s.positionsTold) : (s.receiveOctet l o).positionsTold := by
  have kept : ∀ {f : LanePort → LanePort}, (s.onLane l f).positionsTold := positionsTold_of_queues rfl hs
  unfold State.receiveOctet
  split
  · exact told_ite kept hs
  · refine told_ite kept ?_
    dsimp only
    split
    exacts [told_ite kept (told_ite (finishAll_told _ _) kept), kept]

/-! ## Every command -/

theorem whileRunning_told {f : State → State} (hs : s.positionsTold) (h : whileRunning s f = .next t)
    (hf : (f s).positionsTold) : t.positionsTold := by
  unfold whileRunning at h
  cases h
  exact told_ite hf hs

theorem superCommand_told {m : Inbound} {f : LaneId → State → State → State} (hs : s.positionsTold)
    (h : superCommand m f s = .next t) : t.positionsTold := by
  refine whileRunning_told hs h ?_
  split
  · exact hs
  · split
    exacts [finishAll_told _ _, hs]

theorem truckCommand_told {l : LaneId} {src : TruckId} {m : Inbound} (hs : s.positionsTold)
    (h : truckCommand l src m s = .next t) : t.positionsTold := by
  refine whileRunning_told hs h ?_
  split
  exacts [finish_told _ _, hs]

theorem exec_told {c : Instr} (hs : s.positionsTold) (h : exec c s = .next t) : t.positionsTold := by
  have kept : ∀ {x : State}, x.queues = s.queues → x.positionsTold := fun e => positionsTold_of_queues e hs
  cases c with
  | truckAdmit | truckDemand | truckApproach | truckPassed | truckLowered => exact truckCommand_told hs h
  | configOpen | configClose | setItem | getItem | setMode | enrol | unenrol | forceRelease | readTable | clearEvents | store
    | commissionLock | restart =>
    simp only [exec, execConfigOpen, execConfigClose, execSetItem, execGetItem, execSetMode, execEnrol, execUnenrol,
      execForceRelease, execReadTable, execClearEvents, execStore, execCommissionLock, execRestart] at h
    exact superCommand_told hs h
  | powerOn maintHigh => cases h; exact told_of_empty (powerOnReset_queues _ _)
  | powerLoss | resetAssert => cases h; exact kept (interruptStore_queues s)
  | resetRelease maintHigh => cases h; exact told_ite (told_ite (told_of_empty (powerOnReset_queues _ _)) (kept rfl)) hs
  | gapInputEdge gap high =>
    simp only [exec, execGapInputEdge] at h
    split at h
    · cases h; exact hs
    · next b _ => exact whileRunning_told (s := s.setGapPin b high) (kept rfl) h (finish_told _ _)
  | frame l os =>
    simp only [exec, execFrame] at h
    refine whileRunning_told hs h (told_ite hs ?_)
    clear h kept
    induction os generalizing s with
    | nil => exact hs
    | cons o os ih => exact ih (receiveOctet_told hs)
  | linkBeacon l status =>
    simp only [exec, execLinkBeacon] at h
    refine whileRunning_told hs h ?_
    cases taken : s.takeRx l
        { src := if s.settings.lanes[l].role = .radioA then 0xF8 else 0xF9, telegram := .linkBeacon status } with
    | none => exact hs
    | some x => rw [(takeRx_eq_some.mp taken).2]; exact kept rfl
  | feederReport feeder breaker capacity current volts =>
    simp only [exec, execFeederReport] at h
    refine whileRunning_told hs h ?_
    split
    · exact hs
    · split
      exacts [finish_told _ _, hs]
  | transmitEnd l =>
    simp only [exec, execTransmitEnd] at h
    exact whileRunning_told hs h (kept rfl)
  | allocationPass k =>
    simp only [exec, execAllocationPass] at h
    exact whileRunning_told hs h (finish_told _ _)
  | refreshTimerExpiry =>
    simp only [exec, execRefreshTimerExpiry] at h
    exact whileRunning_told hs h (told_ite (kept (foldl_keeps State.queues _ callPass_queues _ _)) hs)
  | frameTimeout | transmitStart | resyncWindowClose | windowTimerExpiry =>
    simp only [exec, execFrameTimeout, execTransmitStart, execResyncWindowClose, execWindowTimerExpiry] at h
    exact whileRunning_told hs h (told_ite (kept rfl) hs)
  | laneSilenceExpiry l =>
    simp only [exec, execLaneSilenceExpiry] at h
    exact whileRunning_told hs h (told_ite (finishAll_told _ _) hs)
  | feederHoldExpiry | restoreTurn | restoreLapse =>
    simp only [exec, execFeederHoldExpiry, execRestoreTurn, execRestoreLapse] at h
    exact whileRunning_told hs h (told_ite (finish_told _ _) hs)
  | demandIntervalEnd | boostExpiry | silenceLimitExpiry | abandonment | gapTimeout =>
    simp only [exec, execDemandIntervalEnd, execBoostExpiry, execSilenceLimitExpiry, execAbandonment, execGapTimeout] at h
    refine whileRunning_told hs h ?_
    split
    exacts [told_ite (finish_told _ _) hs, hs]
  | rampStep k =>
    simp only [exec, execRampStep] at h
    refine whileRunning_told hs h ?_
    split
    exacts [kept (rampStep_queues s _ _), hs]
  | storeCompletion | pairingWindowEnd | cooldownEnd | clearance =>
    simp only [exec, execStoreCompletion, execPairingWindowEnd, execCooldownEnd, execClearance] at h
    refine whileRunning_told hs h (kept ?_)
    split
    · split <;> simp [State.completeStore, State.countUnpaired, State.setSlot]
    · rfl

/-- Settles O53: each command ends with the position reports, leaves the queues as they are, or empties them. -/
theorem positionsStayTold : Obligations.PositionsStayTold := by
  unfold Obligations.PositionsStayTold
  intro s t hs h
  unfold step at h
  split at h
  · cases h
    exact positionsTold_of_queues (idle_queues s) hs
  · next c rest _ =>
    exact exec_told (s := { s with pending := rest }) (positionsTold_of_queues rfl hs) h

end Sys2Proof.Machine.Admission
end

section
/-! PROOFS. The resync window, the configuration window and the refresh timer (R50, R61, R158). -/

namespace Sys2Proof.Machine.Admission

open TruckRoster

/-! ## Timers (R50, R61, R158) -/

/-- A pass called for on a section changes that section's pending pass and nothing else. -/
theorem callPass_eq (s : State) (k : SectionId) :
    s.callPass k = s.onSection k fun r => { r with passPending := s.isLive k || r.passPending } := by
  unfold State.callPass
  split
  · next live => simp [live]
  · next dead =>
    unfold State.onSection
    rw [updateAt_eq_self _ _ _ (by simp [dead])]

/-- Passes called for on several sections change each of them alike. -/
theorem callPasses_spec (ks : List SectionId) (s : State) :
    ∃ sections, ks.foldl State.callPass s = { s with sections := sections }
      ∧ ∀ k : SectionId, sections[k] =
          { s.sections[k] with passPending := (decide (k ∈ ks) && s.isLive k) || s.sections[k].passPending } := by
  induction ks generalizing s with
  | nil => exact ⟨s.sections, rfl, fun k => by simp⟩
  | cons j ks ih =>
    obtain ⟨sections, h, g⟩ := ih (s.callPass j)
    refine ⟨sections, by rw [List.foldl_cons, h, callPass_eq]; rfl, fun k => ?_⟩
    rw [g k, callPass_eq]
    simp only [State.isLive, State.onSection_sections, updateAt_get, List.mem_cons]
    by_cases hk : k = j
    · subst hk
      simp only [if_true, true_or, decide_true, Bool.true_and, SectionRecord.mk.injEq, true_and]
      cases s.sections[k].state == .live <;> simp
    · simp [hk]

/-- Settles O48: each timer's guard holds at its end. -/
theorem timersExpire : Obligations.TimersExpire := by
  unfold Obligations.TimersExpire
  refine ⟨fun s opened hrun hopen hend => ?_, fun s start hrun hopen hend => ?_, fun s hrun hend => ?_⟩
  · have due : s.resyncOver = true := by simp [State.resyncOver, hopen, elapsed, hend]
    simp only [exec, execResyncWindowClose, whileRunning_of hrun, due, if_true]
  · have due : s.windowDue = true := by simp [State.windowDue, hopen, elapsed, hend]
    simp only [exec, execWindowTimerExpiry, whileRunning_of hrun, due, if_true]
  · have due : s.refreshDue = true := by simp [State.refreshDue, elapsed, hend]
    obtain ⟨sections, h, g⟩ := callPasses_spec allSections { s with refreshStart := s.now }
    refine ⟨{ s with refreshStart := s.now, sections := sections }, ?_, rfl, fun k => ?_⟩
    · simp only [exec, execRefreshTimerExpiry, whileRunning_of hrun, due, if_true, h]
    · simpa [mem_allSections, State.isLive] using g k

end Sys2Proof.Machine.Admission
end

section
/-! PROOFS. READ_TABLE shows each listed section as it stands (R53, R77, R120, R161). -/

namespace Sys2Proof.Machine.Admission

open TruckRoster

/-! ## Changes of one lane -/

theorem onLane_onLane (s : State) (l : LaneId) (f g : LanePort → LanePort) :
    (s.onLane l f).onLane l g = s.onLane l fun p => g (f p) := by
  have twice : updateAt (updateAt s.lanes l f) l g = updateAt s.lanes l fun p => g (f p) := by
    apply Vector.ext
    intro i hi
    have at_i : ∀ (v : Vector LanePort 4) (h : LanePort → LanePort),
        (updateAt v l h)[i] = if (⟨i, hi⟩ : LaneId) = l then h v[l] else v[i] := fun v h => updateAt_get v l ⟨i, hi⟩ h
    rw [at_i, at_i, at_i, updateAt_get_self]
    split <;> rfl
  unfold State.onLane
  rw [twice]

theorem onLane_self (s : State) (l : LaneId) {f : LanePort → LanePort} (h : f s.lanes[l] = s.lanes[l]) : s.onLane l f = s := by
  unfold State.onLane
  rw [updateAt_eq_self _ _ _ h]

/-! ## The images sent (R149, R161) -/

/-- The telegram that carries a TABLE_IMAGE (R149, R161). -/
def imageTelegram (image : TableImage) : OutTelegram :=
  { dest := 0xF0, urgent := false, answer := true, payload := .tableImage image }

/-- The TABLE_IMAGEs are offered to the SUPERVISORY lane one after another. -/
theorem sendImages_eq {l : LaneId} (images : List TableImage) {s : State} (h : s.laneOfRole .supervisory = some l) :
    images.foldl State.sendImage s = s.onLane l fun p => images.foldl (fun p image => p.offer (imageTelegram image)) p := by
  induction images generalizing s with
  | nil => exact (onLane_self s l rfl).symm
  | cons image images ih =>
    have sent : s.sendImage image = s.onLane l fun p => p.offer (imageTelegram image) := by
      simp only [State.sendImage, State.sendRole, h]
      rfl
    have still : (s.sendImage image).laneOfRole .supervisory = some l := by
      rw [laneOfRole_of_settings (State.sendImage_settings s image), h]
    rw [List.foldl_cons, ih still, sent, onLane_onLane]
    rfl

/-- READ_TABLE of a telegram that has been taken: the images are those of the state before it was taken (R161). -/
theorem readTables_superTaken (s : State) (l : LaneId) (members : MemberSet) :
    (s.superTaken l).readTables members
      = if MemberSet.sections members = [] then (s.superTaken l).reply .emptySet typeReadTable
        else ((MemberSet.sections members).map s.tableImage).foldl State.sendImage (s.superTaken l) := by
  unfold State.readTables
  cases hks : MemberSet.sections members with
  | nil => rfl
  | cons k ks =>
    have images : (s.superTaken l).tableImage = s.tableImage := rfl
    rw [images]
    rfl

/-- READ_TABLE raises no event, moves no truck, and hands no copy over. -/
theorem readTables_quiet (s : State) (members : MemberSet) :
    (s.readTables members).handed = s.handed ∧ (s.readTables members).queues = s.queues
      ∧ (s.readTables members).events = s.events := by
  unfold State.readTables
  split
  · simp
  · refine ⟨?_, ?_, ?_⟩
    · exact foldl_keeps State.handed _ State.sendImage_handed _ s
    · exact foldl_keeps State.queues _ State.sendImage_queues _ s
    · exact foldl_keeps State.events _ State.sendImage_events _ s

theorem exec_readTable {s : State} {l : LaneId} {members : MemberSet} (h : s.superTakes l (.readTable members)) :
    exec (.readTable members) s = .next ((s.superTaken l).readTables members) := by
  obtain ⟨handed, queues, events⟩ := readTables_quiet (s.superTaken l) members
  exact superCommand_quiet h (fun _ _ s => s.readTables members) handed queues events

/-! ## What an image shows (R53, R77, R120) -/

theorem of_mem_map_zip {α β : Type} {f : α → β} {xs : List α} {p : β × α} (h : p ∈ (xs.map f).zip xs) : p.1 = f p.2 := by
  induction xs with
  | nil => cases h
  | cons x xs ih =>
    rcases List.mem_cons.mp h with rfl | h
    · rfl
    · exact ih h

theorem holderImage_of_record {s : State} {h : Holder} {r : Truck} (hr : s.truck? h.truck = some r) :
    (s.holderImage h).state = r.state ∧ (s.holderImage h).applied = r.applied :=
  ⟨truckState_of_some hr, by simp [State.holderImage, hr]⟩

theorem approachesInto_none {s : State} {k : SectionId} (h : k.val = 0 ∨ s.inService k = false) :
    s.approachesInto k = [] := by
  unfold State.approachesInto
  rcases h with first | out
  · simp [breakBelow, first]
  · split <;> simp [out]

theorem approachesInto_below {s : State} {k : SectionId} {below : BreakId} (hb : below.val + 1 = k.val)
    (hs : s.inService k = true) : s.approachesInto k = s.breaks[below].approaches := by
  have found : breakBelow k = some below := by
    unfold breakBelow
    rw [if_neg (by omega)]
    exact congrArg some (Fin.ext (by simp; omega))
  simp only [State.approachesInto, found, hs, if_true]

theorem approachImage_shows (e : ApproachEntry) :
    (approachImage e).truck = e.truck ∧ (approachImage e).gapGrant = e.gapGrant
      ∧ (∀ amount, e.kind = .handover amount → (approachImage e).reservation = some amount)
      ∧ (e.kind = .exit → (approachImage e).reservation = none)
      ∧ (e.state = .approaching → (approachImage e).isCleared = false)
      ∧ ∀ time, e.state = .cleared time → (approachImage e).isCleared = true := by
  refine ⟨rfl, rfl, fun amount h => ?_, fun h => ?_, fun h => ?_, fun time h => ?_⟩
  all_goals simp [approachImage, ApproachEntry.isCleared, h]

theorem queueImages_get (q : List QueueEntry) (n : Nat) :
    (queueImages q)[n]? = q[n]?.map fun e => { position := n + 1, truck := e.truck, rank := e.rank } := by
  simp [queueImages, List.getElem?_zipIdx, Function.comp_def]

/-- Settles O44: the images offered are those of the listed sections, and each shows its section field by field. -/
theorem readTableShowsSections : Obligations.ReadTableShowsSections := by
  unfold Obligations.ReadTableShowsSections
  refine ⟨fun s l members h => by rw [exec_readTable h, readTables_superTaken], fun s l members h hlisted => ?_⟩
  have listed : MemberSet.sections members ≠ [] := by
    obtain ⟨k, hk⟩ := hlisted
    exact List.ne_nil_of_mem (List.mem_filter.mpr ⟨mem_allSections k, hk⟩)
  refine ⟨(MemberSet.sections members).map s.tableImage, ?_, ?_, fun i hi => ?_⟩
  · rw [exec_readTable h, readTables_superTaken, if_neg listed, sendImages_eq _ (s := s.superTaken l) h.1]
    rfl
  · rw [List.map_map]
    exact List.map_id _
  · obtain ⟨k, -, rfl⟩ := List.mem_map.mp hi
    refine ⟨rfl, rfl, rfl, rfl, rfl, List.length_map _, fun p hp => ?_, fun hk => ?_, fun below hb hs => ?_,
      queueImages_get _⟩
    · have shown : p.1 = s.holderImage p.2 := of_mem_map_zip hp
      rw [shown]
      exact ⟨rfl, rfl, rfl, fun r hr => holderImage_of_record hr⟩
    · exact congrArg (List.map approachImage) (approachesInto_none hk)
    · have entries : (s.tableImage k).approaches = s.breaks[below].approaches.map approachImage :=
        congrArg (List.map approachImage) (approachesInto_below hb hs)
      rw [entries]
      refine ⟨List.length_map _, fun p hp => ?_⟩
      rw [of_mem_map_zip hp]
      exact approachImage_shows p.2

end Sys2Proof.Machine.Admission
end

section
/-! PROOFS. What pairing that becomes degraded does to the lanes, and what a lane does that turns QUIET (R128, R148, R154). -/

namespace Sys2Proof.Machine.Admission

open TruckRoster

/-! ## The copies held, settled (R154) -/

theorem onLane_lane (s : State) (l m : LaneId) (f : LanePort → LanePort) :
    (s.onLane l f).lanes[m] = if m = l then f s.lanes[l] else s.lanes[m] := updateAt_get s.lanes l m f

/-- A port with so many more telegrams counted unpaired (R151). -/
def unpairedMore (n : Nat) (p : LanePort) : LanePort :=
  { p with counts := { p.counts with unpaired := countUp^[n] p.counts.unpaired } }

theorem countUp_iterate (n : Nat) {c : Nat} (h : c ≤ 65535) : countUp^[n] c = min 65535 (c + n) := by
  induction n generalizing c with
  | zero => simp [h]
  | succ n ih =>
    rw [Function.iterate_succ_apply, ih (countUp_le c)]
    unfold countUp
    omega

/-- Settling copies changes nothing but the copies handed over and the lanes. -/
theorem settleCopies_eq (cs : List (TruckId × RadioCopy)) (s : State) :
    cs.foldl State.settleCopy s
      = { s with lanes := (cs.foldl State.settleCopy s).lanes, handed := (cs.foldl State.settleCopy s).handed } := by
  have one : ∀ (s : State) (c : TruckId × RadioCopy),
      s.settleCopy c = { s with lanes := (s.settleCopy c).lanes, handed := (s.settleCopy c).handed } := by
    intro s c
    unfold State.settleCopy
    split <;> rfl
  induction cs generalizing s with
  | nil => rfl
  | cons c cs ih => rw [List.foldl_cons, ih, one]

/-- A LIVE lane is left alone as copies are settled; on any other each copy held from it counts unpaired. -/
theorem settleCopies_lane (cs : List (TruckId × RadioCopy)) (s : State) (l : LaneId) :
    (cs.foldl State.settleCopy s).lanes[l]
      = unpairedMore (if s.lanes[l].state = .live then 0 else cs.countP fun c => c.2.lane = l) s.lanes[l] := by
  induction cs generalizing s with
  | nil => simp [unpairedMore]
  | cons c cs ih =>
    rw [List.foldl_cons, ih, settleCopy_laneState]
    unfold State.settleCopy
    by_cases hl : s.lanes[l].state = .live
    · rw [if_pos hl, if_pos hl]
      split
      · rfl
      · next hc =>
        have other : l ≠ c.2.lane := fun e => hc (e ▸ hl)
        rw [State.countUnpaired, onLane_lane, if_neg other]
    · rw [if_neg hl, if_neg hl, List.countP_cons]
      by_cases hc : c.2.lane = l
      · subst hc
        rw [if_neg hl, State.countUnpaired, onLane_lane, if_pos rfl]
        simp [unpairedMore, LaneCounts.bumpUnpaired]
      · have kept : (if s.lanes[c.2.lane].state = .live then
            { s with handed := s.handed ++ [(c.1, c.2.telegram)] } else s.countUnpaired c.2.lane).lanes[l] = s.lanes[l] := by
          split
          · rfl
          · rw [State.countUnpaired, onLane_lane, if_neg (Ne.symm hc)]
        rw [kept]
        simp [hc]

/-! ## The degraded flag (R154) -/

theorem updateDegraded_of_not {s : State} (h : s.degradedCondition = false) (cause : Option LaneId) :
    s.updateDegraded cause = s.setDegraded false := by
  simp [State.updateDegraded, h]

/-- PAIRING_DEGRADED raised with the lane that was the cause, if one was (R154). -/
def raiseCause (s : State) : Option LaneId → State
  | some l => s.raise .pairingDegraded (.lane l)
  | none => s

@[simp] theorem raiseCause_lanes (s : State) (cause : Option LaneId) : (raiseCause s cause).lanes = s.lanes := by
  cases cause <;> rfl

theorem updateDegraded_of_new {s : State} (h : s.degradedCondition = true) (hd : s.degraded = false) (cause : Option LaneId) :
    s.updateDegraded cause
      = (raiseCause (s.setDegraded true) cause).heldCopies.foldl State.settleCopy
          (raiseCause (s.setDegraded true) cause).emptySlots := by
  unfold State.updateDegraded
  rw [if_pos h, if_neg (by simp [hd])]
  cases cause <;> rfl

/-- What setting or clearing the degraded flag can do to a lane: more telegrams count unpaired on it. -/
theorem updateDegraded_lane (s : State) (cause : Option LaneId) (l : LaneId) :
    ∃ n, (s.updateDegraded cause).lanes[l] = unpairedMore n s.lanes[l] := by
  by_cases h : s.degradedCondition = true
  · by_cases hd : s.degraded = true
    · exact ⟨0, by simp [State.updateDegraded, h, hd, unpairedMore]⟩
    · have emptied : (raiseCause (s.setDegraded true) cause).emptySlots.lanes = s.lanes := raiseCause_lanes _ cause
      rw [updateDegraded_of_new h (Bool.eq_false_iff.mpr hd), settleCopies_lane]
      simp only [emptied]
      exact ⟨_, rfl⟩
  · rw [updateDegraded_of_not (Bool.eq_false_iff.mpr h)]
    exact ⟨0, rfl⟩

/-- It raises nothing but PAIRING_DEGRADED, and that only for a cause. -/
theorem updateDegraded_events (s : State) (cause : Option LaneId) :
    (s.updateDegraded cause).events = s.events ∨ (s.updateDegraded cause).events = (raiseCause s cause).events := by
  by_cases h : s.degradedCondition = true
  · by_cases hd : s.degraded = true
    · left
      simp [State.updateDegraded, h, hd]
    · right
      rw [updateDegraded_of_new h (Bool.eq_false_iff.mpr hd), settleCopies_eq]
      cases cause <;> rfl
  · left
    rw [updateDegraded_of_not (Bool.eq_false_iff.mpr h)]
    rfl

/-! ## A lane that turns QUIET (R128, R148) -/

/-- The lane QUIET with LANE_QUIET raised, before the blocks that watch its role are told (R148). -/
def quieted (s : State) (l : LaneId) : State := (s.onLane l fun p => { p with state := .quiet }).raise .laneQuiet (.lane l)

/-- A radio lane that has turned QUIET: its transmit queue is emptied too (R155). -/
def quietedRadio (s : State) (l : LaneId) : State := (quieted s l).onLane l LanePort.dropTx

theorem laneQuiet_of_feeder {s : State} {l : LaneId} (h : s.settings.lanes[l].role = .feeder) :
    s.laneQuiet l = (quieted s l).startHold := by
  simp only [State.laneQuiet, h]
  rfl

theorem laneQuiet_of_radio {s : State} {l : LaneId} (h : s.settings.lanes[l].role.isRadio = true) :
    s.laneQuiet l = (quietedRadio s l).updateDegraded (if s.lanes[l].state = .live then some l else none) := by
  unfold State.laneQuiet
  cases hr : s.settings.lanes[l].role <;> simp only [hr, Role.isRadio, Bool.false_eq_true] at h ⊢ <;> rfl

theorem laneQuiet_of_other {s : State} {l : LaneId} (hf : s.settings.lanes[l].role ≠ .feeder)
    (hr : s.settings.lanes[l].role.isRadio = false) : s.laneQuiet l = quieted s l := by
  unfold State.laneQuiet
  cases hc : s.settings.lanes[l].role <;> simp only [hc, Role.isRadio, Bool.true_eq_false, ne_eq, not_true_eq_false] at hf hr ⊢ <;> rfl

theorem quieted_laneState (s : State) (l m : LaneId) :
    (quieted s l).lanes[m].state = if m = l then .quiet else s.lanes[m].state := by
  rw [quieted, State.raise_lanes, onLane_lane]
  split <;> rfl

theorem quietedRadio_lane (s : State) (l m : LaneId) :
    (quietedRadio s l).lanes[m] = if m = l then LanePort.dropTx { s.lanes[l] with state := .quiet } else s.lanes[m] := by
  rw [quietedRadio, onLane_lane, quieted, State.raise_lanes, onLane_lane, onLane_lane, if_pos rfl]
  split <;> rfl

theorem setHold_lanes (s : State) (start : Option Time) : (s.setHold start).lanes = s.lanes := rfl

theorem derateAll_lanes (s : State) : s.derateAll.lanes = s.lanes := by
  have derate : ∀ (s : State) (k : SectionId), (s.derate k).lanes = s.lanes := by
    intro s k
    unfold State.derate State.callPass State.setEffective
    dsimp only
    repeat' split
    all_goals simp
  rw [State.derateAll, setHold_lanes, foldl_keeps State.lanes _ derate]

theorem startHold_lanes (s : State) : s.startHold.lanes = s.lanes := by
  unfold State.startHold
  dsimp only
  split
  · rw [derateAll_lanes]
    rfl
  · rfl

theorem laneQuiet_laneState (s : State) (l m : LaneId) :
    (s.laneQuiet l).lanes[m].state = if m = l then .quiet else s.lanes[m].state := by
  by_cases hf : s.settings.lanes[l].role = .feeder
  · rw [laneQuiet_of_feeder hf, startHold_lanes, quieted_laneState]
  · by_cases hr : s.settings.lanes[l].role.isRadio = true
    · rw [laneQuiet_of_radio hr]
      obtain ⟨n, h⟩ := updateDegraded_lane (quietedRadio s l) (if s.lanes[l].state = .live then some l else none) m
      rw [h, quietedRadio_lane]
      split <;> simp [unpairedMore]
    · rw [laneQuiet_of_other hf (Bool.eq_false_iff.mpr hr), quieted_laneState]

theorem quieted_event (s : State) (l : LaneId) :
    (quieted s l).events[EventKind.laneQuiet.code] = s.events[EventKind.laneQuiet.code].occur (.lane l) :=
  raise_events_self _ _ _

theorem laneQuiet_event (s : State) (l : LaneId) :
    (s.laneQuiet l).events[EventKind.laneQuiet.code] = s.events[EventKind.laneQuiet.code].occur (.lane l) := by
  by_cases hf : s.settings.lanes[l].role = .feeder
  · have held : Deals (quieted s l) (quieted s l).startHold :=
      have reports : Deals (quieted s l) (quieted s l).holdReports := (Deals.refl (quieted s l)).same rfl
      .ite reports.derateAll reports.setHold
    rw [laneQuiet_of_feeder hf, held.laneEvents .laneQuiet rfl, quieted_event]
  · by_cases hr : s.settings.lanes[l].role.isRadio = true
    · have caused : ∀ cause, (raiseCause (quietedRadio s l) cause).events[EventKind.laneQuiet.code]
          = (quieted s l).events[EventKind.laneQuiet.code] := by
        intro cause
        cases cause with
        | none => rfl
        | some m => exact raise_events_ne _ _ (by decide)
      rw [laneQuiet_of_radio hr, ← quieted_event]
      rcases updateDegraded_events (quietedRadio s l) (if s.lanes[l].state = .live then some l else none) with h | h
      · rw [h]
        rfl
      · rw [h, caused]
    · rw [laneQuiet_of_other hf (Bool.eq_false_iff.mpr hr), quieted_event]

/-! ## The silence limit of a lane (R148) -/

theorem exec_laneSilenceExpiry {s : State} {l : LaneId} (hrun : s.running = true) (hdue : s.laneSilenceDue l = true) :
    exec (.laneSilenceExpiry l) s = .next (State.finishAll s (s.laneQuiet l)) := by
  simp only [exec, execLaneSilenceExpiry, whileRunning_of hrun, hdue, if_true]

/-- The FEEDER lane silent, with a hold time (R128). -/
theorem finishAll_feederQuiet {s : State} {l : LaneId} (hrole : s.settings.lanes[l].role = .feeder)
    (hhold : s.settings.feederHoldTime ≠ 0) :
    State.finishAll s (s.laneQuiet l) = State.finish s ((quieted s l).holdReports.setHold (some s.now)) := by
  have quiet : s.laneQuiet l = (quieted s l).holdReports.setHold (some s.now) := by
    rw [laneQuiet_of_feeder hrole]
    unfold State.startHold
    exact if_neg hhold
  rw [quiet]
  exact finishAll_of_handed rfl

theorem silentLane_turnsQuiet {s : State} {l : LaneId} (hrun : s.running = true) (hdue : s.laneSilenceDue l = true) :
    ∃ t, exec (.laneSilenceExpiry l) s = .next t ∧ t.lanes[l].state = .quiet
      ∧ (∀ m : LaneId, m ≠ l → t.lanes[m].state = s.lanes[m].state)
      ∧ t.events[EventKind.laneQuiet.code] = s.events[EventKind.laneQuiet.code].occur (.lane l)
      ∧ (s.settings.lanes[l].role = .feeder → s.settings.feederHoldTime ≠ 0 →
          t.holdTimer = some s.now ∧ t.sections = s.sections ∧ t.roster = s.roster ∧ t.breaks = s.breaks
            ∧ ∀ k : SectionId, t.feeders[k] =
                { s.feeders[k] with age := if s.feeders[k].age = .fresh then .held else s.feeders[k].age }) := by
  have ended : Deals (s.laneQuiet l) (State.finishAll s (s.laneQuiet l)) := (Deals.refl _).finishAll
  refine ⟨_, exec_laneSilenceExpiry hrun hdue, ?_, fun m hm => ?_, ?_, fun hrole hhold => ?_⟩
  · rw [offered_state (ended.lanes l), laneQuiet_laneState, if_pos rfl]
  · rw [offered_state (ended.lanes m), laneQuiet_laneState, if_neg hm]
  · rw [ended.laneEvents .laneQuiet rfl, laneQuiet_event]
  · rw [finishAll_feederQuiet hrole hhold]
    refine ⟨by rw [State.finish_holdTimer]; rfl, by rw [State.finish_sections]; rfl, by rw [State.finish_roster]; rfl,
      by rw [State.finish_breaks]; rfl, fun k => ?_⟩
    have held : ((quieted s l).holdReports.setHold (some s.now)).feeders
        = s.feeders.map fun (f : FeederRecord) => if f.age = .fresh then { f with age := .held } else f := rfl
    rw [State.finish_feeders, held, Fin.getElem_fin, Vector.getElem_map]
    simp only [Fin.getElem_fin]
    split <;> rfl

/-! ## A silent radio lane in BOTH mode (R152, R154) -/

/-- The copies held from LIVE lanes other than one, each with its truck, in roster order. -/
def copiesFromOthers (s : State) (l : LaneId) : List (TruckId × Inbound) :=
  s.roster.filterMap fun r => r.slot.bind fun c =>
    if c.lane ≠ l ∧ s.lanes[c.lane].state = .live then some (r.id, c.telegram) else none

/-- The state right after a radio lane has turned QUIET that degrades pairing, its copies not yet dealt with. -/
def degradedBy (s : State) (l : LaneId) : State :=
  (raiseCause ((quietedRadio s l).setDegraded true) (some l)).emptySlots

/-- What it leaves of the other records, and what it makes of the slots (R154). -/
theorem degradedBy_rest (s : State) (l : LaneId) :
    (degradedBy s l).degraded = true ∧ (degradedBy s l).roster = s.roster.map (fun r => { r with slot := none })
      ∧ (degradedBy s l).queues = s.queues ∧ (degradedBy s l).sections = s.sections ∧ (degradedBy s l).feeders = s.feeders
      ∧ (degradedBy s l).breaks = s.breaks ∧ (degradedBy s l).handed = s.handed
      ∧ (degradedBy s l).events = ((quieted s l).raise .pairingDegraded (.lane l)).events := by
  simp [degradedBy, raiseCause, quietedRadio, quieted, State.emptySlots, State.setDegraded]

theorem degradedBy_lanes (s : State) (l : LaneId) : (degradedBy s l).lanes = (quietedRadio s l).lanes := by
  simp [degradedBy, raiseCause, State.emptySlots, State.setDegraded]

theorem heldCopies_live (s : State) (l : LaneId) :
    ((s.heldCopies.filter fun c => (degradedBy s l).lanes[c.2.lane].state = .live).map fun c => (c.1, c.2.telegram))
      = copiesFromOthers s l := by
  have live : ∀ c : RadioCopy, (degradedBy s l).lanes[c.lane].state = .live ↔ c.lane ≠ l ∧ s.lanes[c.lane].state = .live := by
    intro c
    rw [degradedBy_lanes, quietedRadio_lane]
    split
    · next h => simp [h]
    · next h => simp [h]
  simp only [live, State.heldCopies, copiesFromOthers, List.filter_filterMap, List.map_filterMap]
  congr 1
  funext r
  cases r.slot with
  | none => rfl
  | some c => by_cases hl : c.lane = l <;> by_cases hc : s.lanes[c.lane].state = .live <;> simp_all [Option.filter]

theorem heldCopies_countP (s : State) (l : LaneId) :
    (s.heldCopies.countP fun c => c.2.lane = l) = (s.roster.filter fun r => r.slot.any fun c => c.lane = l).length := by
  rw [State.heldCopies, List.countP_filterMap, ← List.countP_eq_length_filter]
  congr 1
  funext r
  cases r.slot <;> simp

/-- Queues that have been told their positions stay as they are when told again (R41). -/
theorem map_toldFrom {s : State} (told : s.positionsTold) : s.queues.map (toldFrom 1) = s.queues := by
  apply Vector.ext
  intro i hi
  rw [Vector.getElem_map]
  exact toldFrom_of_told (told ⟨i, hi⟩)

/-- Two radio lanes in BOTH mode, both LIVE, and pairing not degraded (R152, R154). -/
structure BothLive (s : State) (l m : LaneId) : Prop where
  mode : s.settings.pairingMode = .both
  sound : s.degraded = false
  roles : s.laneOfRole .radioA = some l ∧ s.laneOfRole .radioB = some m
    ∨ s.laneOfRole .radioA = some m ∧ s.laneOfRole .radioB = some l
  live : s.lanes[l].state = .live
  otherLive : s.lanes[m].state = .live
  other : m ≠ l

namespace BothLive

variable {s : State} {l m : LaneId} (h : BothLive s l m)
include h

theorem isRadio : s.settings.lanes[l].role.isRadio = true := by
  rcases h.roles with ⟨ha, -⟩ | ⟨-, hb⟩
  · rw [role_of_laneOfRole ha]; rfl
  · rw [role_of_laneOfRole hb]; rfl

theorem degradedCondition : (quietedRadio s l).degradedCondition = true := by
  have quiet : ((quietedRadio s l).lanes[l].state == .live) = false := by rw [quietedRadio_lane, if_pos rfl, dropTx_state]; rfl
  have live : ((quietedRadio s l).lanes[m].state == .live) = true := by
    rw [quietedRadio_lane, if_neg h.other, h.otherLive]; rfl
  have mode : (quietedRadio s l).settings.pairingMode = .both := h.mode
  have holds : ∀ r, (quietedRadio s l).laneOfRole r = s.laneOfRole r := fun r => laneOfRole_of_settings rfl r
  unfold State.degradedCondition State.roleLive
  rcases h.roles with ⟨ha, hb⟩ | ⟨ha, hb⟩
  · simp only [holds, ha, hb, quiet, live, mode]; rfl
  · simp only [holds, ha, hb, quiet, live, mode]; rfl

theorem laneQuiet_eq : s.laneQuiet l = s.heldCopies.foldl State.settleCopy (degradedBy s l) := by
  have held : (raiseCause ((quietedRadio s l).setDegraded true) (some l)).heldCopies = s.heldCopies := by
    simp [State.heldCopies, raiseCause, quietedRadio, quieted, State.setDegraded]
  rw [laneQuiet_of_radio h.isRadio, if_pos h.live, updateDegraded_of_new h.degradedCondition h.sound, held, degradedBy]

theorem handed : (s.laneQuiet l).handed = s.handed ++ copiesFromOthers s l := by
  obtain ⟨-, -, -, -, -, -, handed, -⟩ := degradedBy_rest s l
  rw [h.laneQuiet_eq, handed_settleCopies, heldCopies_live, handed]

/-- The lane that fell silent counts every copy held from it unpaired. -/
theorem lane : (s.laneQuiet l).lanes[l] = unpairedMore (s.heldCopies.countP fun c => c.2.lane = l)
    (LanePort.dropTx { s.lanes[l] with state := .quiet }) := by
  have quiet : (degradedBy s l).lanes[l] = LanePort.dropTx { s.lanes[l] with state := .quiet } := by
    rw [degradedBy_lanes, quietedRadio_lane, if_pos rfl]
  rw [h.laneQuiet_eq, settleCopies_lane, quiet, dropTx_state, if_neg LaneState.noConfusion]

/-- The end of the event in which pairing becomes degraded, and then each copy from a LIVE lane as an event of its own. -/
theorem finishAll_eq : State.finishAll s (s.laneQuiet l)
    = (copiesFromOthers s l).foldl State.dealHanded (State.finish s { s.laneQuiet l with handed := s.handed }) := by
  rw [State.finishAll, h.handed, List.drop_left]

theorem rest : (s.laneQuiet l).degraded = true ∧ (s.laneQuiet l).roster = s.roster.map (fun r => { r with slot := none })
    ∧ (s.laneQuiet l).queues = s.queues ∧ (s.laneQuiet l).sections = s.sections ∧ (s.laneQuiet l).feeders = s.feeders
    ∧ (s.laneQuiet l).breaks = s.breaks := by
  obtain ⟨degraded, roster, queues, sections, feeders, breaks, -, -⟩ := degradedBy_rest s l
  rw [h.laneQuiet_eq, settleCopies_eq]
  exact ⟨degraded, roster, queues, sections, feeders, breaks⟩

theorem pairingDegraded_event : (s.laneQuiet l).events[EventKind.pairingDegraded.code]
    = s.events[EventKind.pairingDegraded.code].occur (.lane l) := by
  obtain ⟨-, -, -, -, -, -, -, events⟩ := degradedBy_rest s l
  have raised : (s.laneQuiet l).events = ((quieted s l).raise .pairingDegraded (.lane l)).events := by
    rw [h.laneQuiet_eq, settleCopies_eq]
    exact events
  have before : (quieted s l).events[EventKind.pairingDegraded.code] = s.events[EventKind.pairingDegraded.code] :=
    raise_events_ne (s.onLane l fun p => { p with state := .quiet }) (.lane l) (by decide)
  rw [raised, raise_events_self, before]

end BothLive

/-- Settles O14: the lane turns QUIET whatever its role; and where both radio lanes were LIVE in BOTH mode, the copies held from
LIVE lanes are dealt with after the event's own end. -/
theorem silentLaneTurnsQuiet : Obligations.SilentLaneTurnsQuiet := by
  unfold Obligations.SilentLaneTurnsQuiet
  refine ⟨fun s l hrun hdue => silentLane_turnsQuiet hrun hdue,
    fun s l m hrun told hdue mode sound roles live otherLive other => ?_⟩
  have both : BothLive s l m := ⟨mode, sound, roles, live, otherLive, other⟩
  obtain ⟨degraded, roster, queues, sections, feeders, breaks⟩ := both.rest
  have sent : Deals (s.laneQuiet l) (State.finish s { s.laneQuiet l with handed := s.handed }) :=
    .finish ((Deals.refl (s.laneQuiet l)).same rfl)
  refine ⟨_, by rw [exec_laneSilenceExpiry hrun hdue, both.finishAll_eq]; rfl, ?_, ?_, ?_, ?_, ?_, ?_, fun bounded => ?_, ?_, ?_⟩
  · rw [State.finish_degraded, degraded]
  · rw [State.finish_roster, roster]
  · rw [State.finish_queues, queues, map_toldFrom told]
  · rw [State.finish_sections, sections]
  · rw [State.finish_feeders, feeders]
  · rw [State.finish_breaks, breaks]
  · have unpaired : (State.finish s { s.laneQuiet l with handed := s.handed }).lanes[l].counts.unpaired
        = (s.laneQuiet l).lanes[l].counts.unpaired := by rw [offered_rest (sent.lanes l)]
    rw [unpaired, both.lane, ← heldCopies_countP, ← countUp_iterate _ bounded]
    simp [unpairedMore]
  · rw [sent.laneEvents .laneQuiet rfl, laneQuiet_event]
  · rw [sent.laneEvents .pairingDegraded rfl, both.pairingDegraded_event]

end Sys2Proof.Machine.Admission
end

section
/-! PROOFS. What a whole frame does on a lane that hunts (R51, R144 to R148, R154). -/

namespace Sys2Proof.Machine.Admission

open TruckRoster

/-! ## Changes of one lane, and ends of events -/

/-- What a change of a lane does depends on what it makes of that lane alone. -/
theorem onLane_congr {s : State} {l : LaneId} {f g : LanePort → LanePort} (h : f s.lanes[l] = g s.lanes[l]) :
    s.onLane l f = s.onLane l g := by
  have same : updateAt s.lanes l f = updateAt s.lanes l g := by
    apply Vector.ext
    intro i hi
    have at_i : ∀ (k : LanePort → LanePort), (updateAt s.lanes l k)[i] = if (⟨i, hi⟩ : LaneId) = l then k s.lanes[l] else s.lanes[i] :=
      fun k => updateAt_get s.lanes l ⟨i, hi⟩ k
    rw [at_i, at_i, h]
  unfold State.onLane
  rw [same]

/-- The end of an event looks back only at the copies handed over and the event records. -/
theorem finishAll_congr {before before' : State} (hh : before.handed = before'.handed) (he : before.events = before'.events)
    (s : State) : State.finishAll before s = State.finishAll before' s := by
  have set : ∀ x : State, newlySet before x = newlySet before' x := fun x => by unfold newlySet; rw [he]
  have ended : ∀ x : State, State.finish before x = State.finish before' x := fun x => by
    unfold State.finish State.flushEvents
    rw [set]
  unfold State.finishAll
  rw [hh, ended]

/-- An event that raises nothing, hands no copy over and moves no queue entry has no end of its own. -/
theorem finishAll_quiet {before s : State} (told : before.positionsTold) (hq : s.queues = before.queues)
    (hh : s.handed = before.handed) (he : s.events = before.events) : State.finishAll before s = s := by
  rw [finishAll_of_handed hh, finish_eq_self (positionsTold_of_queues hq told) (newlySet_of_events he)]

/-! ## The octets of a frame, one after another (R144) -/

theorem frameComplete_iff {os : List Octet} : frameComplete os = true ↔ ∃ n, frameLength os = some n ∧ os.length = n + 8 := by
  unfold frameComplete
  cases frameLength os <;> simp

/-- The LENGTH octet stands where it does whatever follows it. -/
theorem frameLength_append {os : List Octet} {n : Nat} (h : frameLength os = some n) (rest : List Octet) :
    frameLength (os ++ rest) = some n := by
  unfold frameLength at *
  obtain ⟨x, hx, rfl⟩ := Option.map_eq_some_iff.mp h
  obtain ⟨hlt, -⟩ := List.getElem?_eq_some_iff.mp hx
  rw [List.getElem?_append_left hlt, hx]
  rfl

/-- A whole frame is never whole before its last octet. -/
theorem frameComplete_early {os rest : List Octet} (whole : frameComplete (os ++ rest) = true) (more : rest ≠ []) :
    frameComplete os = false := by
  obtain ⟨n, length, total⟩ := frameComplete_iff.mp whole
  rw [Bool.eq_false_iff]
  intro early
  obtain ⟨m, hm, total'⟩ := frameComplete_iff.mp early
  have same : m = n := Option.some.inj ((frameLength_append hm rest).symm.trans length)
  have : rest.length ≠ 0 := fun e => more (List.length_eq_zero_iff.mp e)
  rw [List.length_append] at total
  omega

/-- A lane that has collected so many octets of a frame, the last of them now (R144). -/
def collecting (s : State) (l : LaneId) (os : List Octet) : State :=
  s.onLane l fun p => { p with partialFrame := os, lastOctet := s.now }

/-- An octet received without a framing error. -/
def clean (o : Octet) : LineOctet := { value := o, framingError := false }

theorem collecting_collecting (s : State) (l : LaneId) (os os' : List Octet) :
    collecting (collecting s l os) l os' = collecting s l os' := onLane_onLane s l _ _

theorem collecting_partialFrame (s : State) (l : LaneId) (os : List Octet) : (collecting s l os).lanes[l].partialFrame = os := by
  rw [collecting, onLane_lane, if_pos rfl]

/-- A clean octet on a lane that has collected some. -/
theorem receiveOctet_begun {s : State} {l : LaneId} {os : List Octet} (got : s.lanes[l].partialFrame = os) (begun : os ≠ [])
    (o : Octet) : s.receiveOctet l (clean o)
      = match frameLength (os ++ [o]) with
        | some n =>
          if 200 < n then s.onLane l LanePort.failFrame
          else if frameComplete (os ++ [o]) then State.finishAll s (s.judgeFrame l (os ++ [o]))
          else collecting s l (os ++ [o])
        | none => collecting s l (os ++ [o]) := by
  obtain ⟨a, as, rfl⟩ := List.exists_cons_of_ne_nil begun
  unfold State.receiveOctet
  rw [got]
  rfl

/-- What the next octet of a whole frame of no more than 208 octets does to a lane that collects. -/
theorem receiveOctet_collecting {s : State} {l : LaneId} {os rest : List Octet} {o : Octet} (begun : os ≠ [])
    (whole : frameComplete (os ++ o :: rest) = true) (short : (os ++ o :: rest).length ≤ 208) :
    (collecting s l os).receiveOctet l (clean o)
      = if rest = [] then State.finishAll (collecting s l os) ((collecting s l os).judgeFrame l (os ++ [o]))
        else collecting s l (os ++ [o]) := by
  have split_rest : os ++ o :: rest = (os ++ [o]) ++ rest := by simp
  obtain ⟨n, length, total⟩ := frameComplete_iff.mp whole
  have fits : ∀ m, frameLength (os ++ [o]) = some m → ¬ 200 < m := by
    intro m hm
    have same : m = n := Option.some.inj ((frameLength_append hm rest).symm.trans (by rw [← split_rest, length]))
    omega
  rw [receiveOctet_begun (collecting_partialFrame s l os) begun]
  by_cases last : rest = []
  · subst last
    have known : frameLength (os ++ [o]) = some n := length
    simp only [known, if_neg (fits n known), whole, if_true]
  · rw [split_rest] at whole
    simp only [frameComplete_early whole last, last, Bool.false_eq_true, if_false]
    split
    · next m hm => rw [if_neg (fits m hm)]; exact collecting_collecting s l os _
    · exact collecting_collecting s l os _

/-- A frame begun and completed: it is judged as a whole. -/
theorem receiveOctets_collecting {s : State} {l : LaneId} (rest : List Octet) {os : List Octet} (begun : os ≠ [])
    (more : rest ≠ []) (whole : frameComplete (os ++ rest) = true) (short : (os ++ rest).length ≤ 208) :
    ∃ got, (rest.map clean).foldl (fun s o => s.receiveOctet l o) (collecting s l os)
      = State.finishAll (collecting s l got) ((collecting s l got).judgeFrame l (os ++ rest)) := by
  induction rest generalizing os with
  | nil => exact absurd rfl more
  | cons o rest ih =>
    rw [List.map_cons, List.foldl_cons, receiveOctet_collecting begun whole short]
    have split_rest : os ++ o :: rest = (os ++ [o]) ++ rest := by simp
    by_cases last : rest = []
    · subst last
      exact ⟨os, rfl⟩
    · rw [if_neg last, split_rest]
      rw [split_rest] at whole short
      exact ih (by simp) last whole short

/-- A judged frame leaves nothing collected, so what was collected before does not matter. -/
theorem judgeFrame_collecting (s : State) (l : LaneId) (got os : List Octet) :
    (collecting s l got).judgeFrame l os = (collecting s l []).judgeFrame l os := by
  unfold State.judgeFrame collecting
  simp only [onLane_onLane]
  rfl

/-- A whole frame on a lane that hunts is judged, and its event ends. -/
theorem exec_frame {s : State} {l : LaneId} {octets : List Octet} (h : s.frameArrives l octets) :
    exec (frameOn l octets) s = .next (State.finishAll s ((collecting s l []).judgeFrame l octets)) := by
  obtain ⟨hrun, -, used, hunts, start, whole, short⟩ := h
  obtain ⟨rest, rfl⟩ : ∃ rest, octets = 0xC5#8 :: rest := List.head?_eq_some_iff.mp start
  have more : rest ≠ [] := by
    rintro rfl
    cases whole
  have begun : s.receiveOctet l (clean 0xC5#8) = collecting s l [0xC5#8] := by
    unfold State.receiveOctet
    rw [hunts]
    rfl
  obtain ⟨got, judged⟩ := receiveOctets_collecting (s := s) (l := l) rest (os := [0xC5#8]) (by simp) more whole short
  have all : ((0xC5#8 :: rest).map clean).foldl (fun s o => s.receiveOctet l o) s
      = State.finishAll s ((collecting s l []).judgeFrame l (0xC5#8 :: rest)) := by
    rw [List.map_cons, List.foldl_cons, begun, judged, judgeFrame_collecting,
      finishAll_congr (before := collecting s l got) (before' := s) rfl rfl]
    rfl
  simp only [frameOn, exec, execFrame, whileRunning_of hrun, if_neg used]
  exact congrArg Host.Outcome.next all

/-! ## CONTROL and CHECK (R145) -/

/-- A frame that is not sound is a check failure. -/
theorem judgeFrame_unsound {octets : List Octet} (h : ∀ f control repaired, ¬ soundFrame octets f control repaired) (s : State)
    (l : LaneId) : s.judgeFrame l octets = s.onLane l LanePort.failFrame := by
  unfold State.judgeFrame
  split
  · rfl
  · next f hf =>
    split
    · rfl
    · next control repaired hc => exact if_neg fun sound => h f control repaired ⟨hf, hc, sound⟩

theorem exec_brokenFrame {s : State} {l : LaneId} {octets : List Octet} (h : s.frameArrives l octets)
    (broken : ∀ f control repaired, ¬ soundFrame octets f control repaired) :
    exec (frameOn l octets) s = .next
      (s.onLane l fun p => { p with lastOctet := s.now, counts := p.counts.bumpCheckFailures }) := by
  have judged : (collecting s l []).judgeFrame l octets
      = s.onLane l fun p => { p with lastOctet := s.now, counts := p.counts.bumpCheckFailures } := by
    obtain ⟨-, -, -, hunts, -⟩ := h
    rw [judgeFrame_unsound broken, collecting, onLane_onLane]
    refine onLane_congr ?_
    simp only [LanePort.failFrame, ← hunts]
  obtain ⟨-, told, -⟩ := id h
  rw [exec_frame h, judged]
  exact congrArg Host.Outcome.next (finishAll_quiet told rfl rfl rfl)

end Sys2Proof.Machine.Admission
end

section
/-! PROOFS. What a sound frame does to its lane, and to the transmit queue of a radio lane that it turns LIVE (R51, R145 to R148,
R154). -/

namespace Sys2Proof.Machine.Admission

open TruckRoster

/-! ## A sound frame judged (R145 to R147) -/

/-- The lane that a sound frame came whole on: it hunts, and a repair is counted (R145). -/
def framed (s : State) (l : LaneId) (repaired : Bool) : State :=
  s.onLane l fun p =>
    { p with
      lastOctet := s.now
      partialFrame := []
      counts := if repaired then p.counts.bumpCorrected else p.counts }

/-- The port that has heard a sound frame, and hunts. -/
def heardPort (s : State) (l : LaneId) (repaired : Bool) : LanePort :=
  { s.lanes[l].heard s.now repaired with partialFrame := [] }

/-- The lane LIVE and its silence timer restarted (R146, R148). -/
def heardOn (s : State) (l : LaneId) (repaired : Bool) : State := s.onLane l fun _ => heardPort s l repaired

/-- What the telegram of a sound frame does after the lane has been heard (R146, R147). -/
def judged (s : State) (l : LaneId) (role : Role) (control : Octet) (f : Frame) : State :=
  if f.dest = 0xFE#8 then
    match judgeTelegram role control f with
    | some e => s.onLane l fun p => p.accept e
    | none => s.raise .telegramRejected (.lane l)
  else s.onLane l fun p => { p with counts := p.counts.bumpForeign }

/-- What it does to the lane's port. -/
def portJudged (role : Role) (control : Octet) (f : Frame) (p : LanePort) : LanePort :=
  if f.dest = 0xFE#8 then (judgeTelegram role control f).elim p p.accept else { p with counts := p.counts.bumpForeign }

theorem judgeFrame_sound {octets : List Octet} {f : Frame} {control : Octet} {repaired : Bool}
    (h : soundFrame octets f control repaired) (s : State) (l : LaneId) :
    (collecting s l []).judgeFrame l octets
      = judged ((framed s l repaired).laneHeard l) l s.settings.lanes[l].role control f := by
  obtain ⟨hf, hc, sound⟩ := h
  unfold State.judgeFrame
  simp only [hf, hc, sound, if_true, collecting, onLane_onLane]
  rfl

theorem judged_lane (s : State) (l : LaneId) (role : Role) (control : Octet) (f : Frame) :
    (judged s l role control f).lanes[l] = portJudged role control f s.lanes[l] := by
  unfold judged portJudged
  split
  · cases judgeTelegram role control f with
    | none => rfl
    | some e => exact (onLane_lane s l l _).trans (if_pos rfl)
  · exact (onLane_lane s l l _).trans (if_pos rfl)

theorem judged_rest (s : State) (l : LaneId) (role : Role) (control : Octet) (f : Frame) :
    (judged s l role control f).queues = s.queues ∧ (judged s l role control f).handed = s.handed
      ∧ (judged s l role control f).settings = s.settings := by
  unfold judged
  split
  · cases judgeTelegram role control f <;> simp
  · simp

theorem judged_event (s : State) (l : LaneId) (role : Role) (control : Octet) (f : Frame) :
    (judged s l role control f).events[EventKind.telegramRejected.code]
      = if f.dest = 0xFE#8 ∧ judgeTelegram role control f = none
        then s.events[EventKind.telegramRejected.code].occur (.lane l)
        else s.events[EventKind.telegramRejected.code] := by
  unfold judged
  by_cases ours : f.dest = 0xFE#8
  · rw [if_pos ours]
    cases hj : judgeTelegram role control f with
    | none => rw [if_pos ⟨ours, rfl⟩]; exact raise_events_self _ _ _
    | some e => rw [if_neg (by simp)]; rfl
  · rw [if_neg ours, if_neg fun h => ours h.1]
    rfl

/-! ## A lane that was LIVE, or that carries no telegrams to trucks -/

theorem framed_heard (s : State) (l : LaneId) (repaired : Bool) :
    ((framed s l repaired).onLane l fun p => { p with silenceStart := (framed s l repaired).now, state := .live })
      = heardOn s l repaired := by
  rw [framed, onLane_onLane]
  exact onLane_congr rfl

theorem framed_laneHeard {s : State} {l : LaneId} (h : s.lanes[l].state = .live ∨ s.settings.lanes[l].role.isRadio = false)
    (repaired : Bool) : (framed s l repaired).laneHeard l = heardOn s l repaired := by
  have state : (framed s l repaired).lanes[l].state = s.lanes[l].state := by rw [framed, onLane_lane, if_pos rfl]
  have settings : (framed s l repaired).settings = s.settings := rfl
  unfold State.laneHeard
  simp only [framed_heard, state, settings]
  rcases h with live | wired
  · rw [if_pos live]
  · rw [wired]
    simp

theorem exec_soundFrame {s : State} {l : LaneId} {octets : List Octet} {f : Frame} {control : Octet} {repaired : Bool}
    (arrives : s.frameArrives l octets) (sound : soundFrame octets f control repaired)
    (h : s.lanes[l].state = .live ∨ s.settings.lanes[l].role.isRadio = false) :
    exec (frameOn l octets) s
      = .next (State.finish s (judged (heardOn s l repaired) l s.settings.lanes[l].role control f)) := by
  obtain ⟨-, handed, -⟩ := judged_rest (heardOn s l repaired) l s.settings.lanes[l].role control f
  rw [exec_frame arrives, judgeFrame_sound sound, framed_laneHeard h, finishAll_of_handed (before := s) handed]

/-- A telegram that is not rejected changes its lane and nothing else. -/
theorem exec_unrejectedFrame {s : State} {l : LaneId} {octets : List Octet} {f : Frame} {control : Octet} {repaired : Bool}
    (arrives : s.frameArrives l octets) (sound : soundFrame octets f control repaired)
    (h : s.lanes[l].state = .live ∨ s.settings.lanes[l].role.isRadio = false)
    (kept : f.dest = 0xFE#8 → judgeTelegram s.settings.lanes[l].role control f ≠ none) :
    exec (frameOn l octets) s = .next
      (s.onLane l fun p => portJudged s.settings.lanes[l].role control f (p.heard s.now repaired)) := by
  obtain ⟨-, told, -, hunts, -⟩ := id arrives
  have port : heardPort s l repaired = s.lanes[l].heard s.now repaired := by
    simp only [heardPort, LanePort.heard, ← hunts]
  have changed : judged (heardOn s l repaired) l s.settings.lanes[l].role control f
      = s.onLane l fun p => portJudged s.settings.lanes[l].role control f (p.heard s.now repaired) := by
    unfold judged portJudged
    split
    · next ours =>
      cases hj : judgeTelegram s.settings.lanes[l].role control f with
      | none => exact absurd hj (kept ours)
      | some e => exact (onLane_onLane s l _ _).trans (onLane_congr (congrArg (fun p => LanePort.accept p e) port))
    · exact (onLane_onLane s l _ _).trans
        (onLane_congr (congrArg (fun (p : LanePort) => { p with counts := p.counts.bumpForeign }) port))
  rw [exec_soundFrame arrives sound h, changed]
  exact congrArg Host.Outcome.next (finish_eq_self (positionsTold_of_queues rfl told) (newlySet_of_events rfl))

theorem exec_rejectedFrame {s : State} {l : LaneId} {octets : List Octet} {f : Frame} {control : Octet} {repaired : Bool}
    (arrives : s.frameArrives l octets) (sound : soundFrame octets f control repaired)
    (h : s.lanes[l].state = .live ∨ s.settings.lanes[l].role.isRadio = false) (ours : f.dest = 0xFE#8)
    (rejected : judgeTelegram s.settings.lanes[l].role control f = none) :
    ∃ t, exec (frameOn l octets) s = .next t ∧ t = { s with lanes := t.lanes, events := t.events }
      ∧ t.events[EventKind.telegramRejected.code] = s.events[EventKind.telegramRejected.code].occur (.lane l)
      ∧ Offered (heardPort s l repaired) t.lanes[l] := by
  obtain ⟨-, told, -⟩ := id arrives
  have raised : judged (heardOn s l repaired) l s.settings.lanes[l].role control f
      = (heardOn s l repaired).raise .telegramRejected (.lane l) := by
    unfold judged
    rw [if_pos ours, rejected]
  have sent : Deals ((heardOn s l repaired).raise .telegramRejected (.lane l))
      (State.finish s ((heardOn s l repaired).raise .telegramRejected (.lane l))) := (Deals.refl _).finish
  refine ⟨_, by rw [exec_soundFrame arrives sound h, raised], ?_, ?_, ?_⟩
  · obtain ⟨lanes, ended⟩ := finish_spec s ((heardOn s l repaired).raise .telegramRejected (.lane l))
    rw [ended, State.raise_queues]
    have same : (heardOn s l repaired).queues.map (toldFrom 1) = s.queues := map_toldFrom told
    rw [same]
    rfl
  · rw [sent.laneEvents .telegramRejected rfl]
    exact raise_events_self _ _ _
  · have lane := sent.lanes l
    rwa [State.raise_lanes, heardOn, onLane_lane, if_pos rfl] at lane

end Sys2Proof.Machine.Admission
end

section
/-! PROOFS. A radio lane that a sound frame turns LIVE: its resync repeat, and pairing that may become or cease to be degraded
(R51, R148, R154). -/

namespace Sys2Proof.Machine.Admission

open TruckRoster

/-! ## EVENTs and radio lanes (R142, R167) -/

theorem sendRole_radioLane {s : State} {l : LaneId} (hl : s.settings.lanes[l].role.isRadio = true) {r : Role}
    (hr : r.isRadio = false) (x : OutTelegram) : (s.sendRole r x).lanes[l] = s.lanes[l] := by
  unfold State.sendRole
  split
  · next m hm =>
    rw [sendOn_lane, if_neg]
    rintro rfl
    rw [role_of_laneOfRole hm, hr] at hl
    cases hl
  · rfl

theorem sendEvents_radioLane {s : State} {l : LaneId} (hl : s.settings.lanes[l].role.isRadio = true) {r : Role}
    (hr : r.isRadio = false) (ks : List EventKind) (mask : MemberSet) (d : Octet) :
    (s.sendEvents ks r mask d).lanes[l] = s.lanes[l] := by
  unfold State.sendEvents
  split
  · rfl
  · exact sendRole_radioLane hl hr _

/-- The end of an event that moves no queue entry leaves a radio lane alone. -/
theorem finish_radioLane (before : State) {s : State} {l : LaneId} (told : s.positionsTold)
    (hl : s.settings.lanes[l].role.isRadio = true) : (State.finish before s).lanes[l] = s.lanes[l] := by
  unfold State.finish State.flushEvents
  rw [reportAllPositions_of_told told, sendEvents_radioLane (by rw [sendEvents_settings]; exact hl) rfl,
    sendEvents_radioLane hl rfl]

/-! ## The resync repeat (R51) -/

/-- Is the repeat due: the window open, the lane one that carries telegrams to trucks, and its repeat flag clear (R51)? -/
def repeatDue (s : State) (l : LaneId) (opened : Time) : Prop :=
  s.resyncOpened = some opened ∧ s.carriesTrucks s.settings.lanes[l].role = true ∧ s.lanes[l].resyncRepeated = false

theorem resyncRepeat_of_due {s : State} {l : LaneId} {opened : Time} (h : repeatDue s l opened) :
    s.resyncRepeat l
      = (s.onLane l fun p => { p with resyncRepeated := true }).sendOn l (OutTelegram.resync (s.resyncLeft opened)) := by
  obtain ⟨isOpen, carries, clear⟩ := h
  simp only [State.resyncRepeat, isOpen, carries, clear, Bool.not_false, Bool.and_self, if_true]

theorem resyncRepeat_of_not {s : State} {l : LaneId} (h : ∀ opened, ¬ repeatDue s l opened) : s.resyncRepeat l = s := by
  unfold State.resyncRepeat
  split
  · next opened isOpen =>
    refine if_neg fun due => h opened ?_
    simpa [repeatDue, isOpen] using due
  · rfl

/-- The port after the repeat, if it is due. -/
theorem resyncRepeat_lane (s : State) (l : LaneId) :
    (∃ opened, repeatDue s l opened ∧ (s.resyncRepeat l).lanes[l]
        = ({ s.lanes[l] with resyncRepeated := true }).offer (OutTelegram.resync (s.resyncLeft opened)))
      ∨ (∀ opened, ¬ repeatDue s l opened) ∧ (s.resyncRepeat l).lanes[l] = s.lanes[l] := by
  by_cases h : ∃ opened, repeatDue s l opened
  · obtain ⟨opened, due⟩ := h
    refine .inl ⟨opened, due, ?_⟩
    rw [resyncRepeat_of_due due, sendOn_lane, if_pos rfl, onLane_lane, if_pos rfl]
  · exact .inr ⟨not_exists.mp h, by rw [resyncRepeat_of_not (not_exists.mp h)]⟩

theorem resyncRepeat_events (s : State) (l : LaneId) : (s.resyncRepeat l).events = s.events := by
  unfold State.resyncRepeat
  split
  · split <;> simp
  · rfl

theorem resyncRepeat_queues (s : State) (l : LaneId) : (s.resyncRepeat l).queues = s.queues := by
  unfold State.resyncRepeat
  split
  · split <;> simp
  · rfl

/-! ## A radio lane turned LIVE (R148, R154) -/

/-- What a port holds beside its transmit queue, the telegrams dropped from it, and the copies unpaired. -/
def portCore (p : LanePort) : LanePort :=
  { p with tx := [], counts := { p.counts with transmitDrops := 0, unpaired := 0 } }

theorem portCore_offered {p q : LanePort} (h : Offered p q) : portCore q = portCore p := by
  rw [offered_rest h]
  rfl

theorem portCore_unpairedMore (n : Nat) (p : LanePort) : portCore (unpairedMore n p) = portCore p := rfl

theorem portCore_judged (role : Role) (control : Octet) (f : Frame) (p : LanePort) :
    portCore (portJudged role control f p) = portJudged role control f (portCore p) := by
  unfold portJudged
  split
  · cases judgeTelegram role control f with
    | none => rfl
    | some e =>
      have room : (portCore p).rx = p.rx := rfl
      simp only [Option.elim_some, LanePort.accept, room]
      split <;> rfl
  · rfl

theorem portJudged_tx (role : Role) (control : Octet) (f : Frame) (p : LanePort) : (portJudged role control f p).tx = p.tx := by
  unfold portJudged
  split
  · cases judgeTelegram role control f with
    | none => rfl
    | some e =>
      simp only [Option.elim_some, LanePort.accept]
      split <;> rfl
  · rfl

/-- The state in which a radio lane has been heard that was not LIVE, its repeat and the degraded flag seen to. -/
def turnedLive (s : State) (l : LaneId) (repaired : Bool) : State :=
  ((heardOn s l repaired).resyncRepeat l).updateDegraded none

theorem framed_turnsLive {s : State} {l : LaneId} (h : s.lanes[l].state ≠ .live)
    (radio : s.settings.lanes[l].role.isRadio = true) (repaired : Bool) :
    (framed s l repaired).laneHeard l = turnedLive s l repaired := by
  have state : (framed s l repaired).lanes[l].state = s.lanes[l].state := by rw [framed, onLane_lane, if_pos rfl]
  have settings : (framed s l repaired).settings = s.settings := rfl
  unfold State.laneHeard
  simp only [framed_heard, state, settings, if_neg h, radio, if_true]
  rfl

/-- Its port: heard, the repeat offered if due, and some copies counted unpaired. -/
theorem turnedLive_lane (s : State) (l : LaneId) (repaired : Bool) :
    ∃ n, (turnedLive s l repaired).lanes[l] = unpairedMore n ((heardOn s l repaired).resyncRepeat l).lanes[l] :=
  updateDegraded_lane _ none l

theorem turnedLive_events (s : State) (l : LaneId) (repaired : Bool) : (turnedLive s l repaired).events = s.events := by
  rcases updateDegraded_events ((heardOn s l repaired).resyncRepeat l) none with h | h
  · rw [turnedLive, h, resyncRepeat_events]
    rfl
  · rw [turnedLive, h]
    exact resyncRepeat_events _ l

theorem exec_turnsLive {s : State} {l : LaneId} {octets : List Octet} {f : Frame} {control : Octet} {repaired : Bool}
    (arrives : s.frameArrives l octets) (sound : soundFrame octets f control repaired)
    (h : s.lanes[l].state ≠ .live) (radio : s.settings.lanes[l].role.isRadio = true) :
    exec (frameOn l octets) s
      = .next (State.finishAll s (judged (turnedLive s l repaired) l s.settings.lanes[l].role control f)) := by
  rw [exec_frame arrives, judgeFrame_sound sound, framed_turnsLive h radio]

/-- Outside BOTH mode pairing is never degraded, no copy is settled, and the end of the event leaves the lane alone. -/
theorem turnsLive_lane_of_mode {s : State} {l : LaneId} (told : s.positionsTold)
    (radio : s.settings.lanes[l].role.isRadio = true) (mode : s.settings.pairingMode ≠ .both) (repaired : Bool)
    (control : Octet) (f : Frame) :
    (State.finishAll s (judged (turnedLive s l repaired) l s.settings.lanes[l].role control f)).lanes[l]
      = portJudged s.settings.lanes[l].role control f ((heardOn s l repaired).resyncRepeat l).lanes[l] := by
  have settings : ((heardOn s l repaired).resyncRepeat l).settings = s.settings :=
    settings_of_setup (setup_resyncRepeat (heardOn s l repaired) l)
  have unpaired : ((heardOn s l repaired).resyncRepeat l).degradedCondition = false := by
    simp [State.degradedCondition, settings, mode]
  have live : turnedLive s l repaired = ((heardOn s l repaired).resyncRepeat l).setDegraded false :=
    updateDegraded_of_not unpaired none
  have handed : ((heardOn s l repaired).resyncRepeat l).handed = s.handed :=
    handed_of_setup (setup_resyncRepeat (heardOn s l repaired) l)
  obtain ⟨queues', handed', settings'⟩ := judged_rest (turnedLive s l repaired) l s.settings.lanes[l].role control f
  rw [finishAll_of_handed (by rw [handed', live]; exact handed),
    finish_radioLane s (positionsTold_of_queues (by rw [queues', live]; exact resyncRepeat_queues _ l) told)
      (by rw [settings', live]; exact (congrArg (fun x : Settings => x.lanes[l].role.isRadio) settings).trans radio),
    judged_lane, live]
  rfl

/-- The end of the event offers telegrams to the lane, and no more than that. -/
theorem turnsLive_offered (s : State) (l : LaneId) (repaired : Bool) (control : Octet) (f : Frame) :
    ∃ n, Offered
      (portJudged s.settings.lanes[l].role control f
        (unpairedMore n ((heardOn s l repaired).resyncRepeat l).lanes[l]))
      (State.finishAll s (judged (turnedLive s l repaired) l s.settings.lanes[l].role control f)).lanes[l] := by
  obtain ⟨n, lane⟩ := turnedLive_lane s l repaired
  refine ⟨n, ?_⟩
  rw [← lane, ← judged_lane]
  have ended : Deals (judged (turnedLive s l repaired) l s.settings.lanes[l].role control f) _ :=
    (Deals.refl _).finishAll (before := s)
  exact ended.lanes l

theorem turnsLive_event (s : State) (l : LaneId) (repaired : Bool) (control : Octet) (f : Frame) :
    (State.finishAll s (judged (turnedLive s l repaired) l s.settings.lanes[l].role control f)).events[
        EventKind.telegramRejected.code]
      = if f.dest = 0xFE#8 ∧ judgeTelegram s.settings.lanes[l].role control f = none
        then s.events[EventKind.telegramRejected.code].occur (.lane l)
        else s.events[EventKind.telegramRejected.code] := by
  have ended : Deals (judged (turnedLive s l repaired) l s.settings.lanes[l].role control f) _ :=
    (Deals.refl _).finishAll (before := s)
  rw [ended.laneEvents .telegramRejected rfl, judged_event, turnedLive_events]

/-! ## The repeat due on the lane as it was -/

theorem repeatDue_heardOn (s : State) (l : LaneId) (repaired : Bool) (opened : Time) :
    repeatDue (heardOn s l repaired) l opened ↔ repeatDue s l opened := by
  have flag : (heardOn s l repaired).lanes[l].resyncRepeated = s.lanes[l].resyncRepeated := by
    rw [heardOn, onLane_lane, if_pos rfl]
    rfl
  unfold repeatDue
  rw [flag]
  exact Iff.rfl

/-- The port that has been heard, with the repeat offered if it is due. -/
theorem heardRepeat_lane (s : State) (l : LaneId) (repaired : Bool) :
    (∃ opened, repeatDue s l opened ∧ ((heardOn s l repaired).resyncRepeat l).lanes[l]
        = ({ heardPort s l repaired with resyncRepeated := true }).offer (OutTelegram.resync (s.resyncLeft opened)))
      ∨ (∀ opened, ¬ repeatDue s l opened)
        ∧ ((heardOn s l repaired).resyncRepeat l).lanes[l] = heardPort s l repaired := by
  have port : (heardOn s l repaired).lanes[l] = heardPort s l repaired := by rw [heardOn, onLane_lane, if_pos rfl]
  have lane := resyncRepeat_lane (heardOn s l repaired) l
  simp only [repeatDue_heardOn, port] at lane
  exact lane

end Sys2Proof.Machine.Admission
end

section
/-! PROOFS. What a whole frame does, case by case (R51, R144 to R148, R154). -/

namespace Sys2Proof.Machine.Admission

open TruckRoster

/-! ## The port, field by field -/

/-- What the telegram of a sound frame leaves of a port that has been heard. -/
theorem portJudged_rest (role : Role) (control : Octet) (f : Frame) (p : LanePort) :
    (portJudged role control f p).state = p.state ∧ (portJudged role control f p).silenceStart = p.silenceStart
      ∧ (portJudged role control f p).partialFrame = p.partialFrame
      ∧ (portJudged role control f p).resyncRepeated = p.resyncRepeated
      ∧ (portJudged role control f p).counts.checkFailures = p.counts.checkFailures
      ∧ (portJudged role control f p).counts.corrected = p.counts.corrected := by
  unfold portJudged
  split
  · cases judgeTelegram role control f with
    | none => exact ⟨rfl, rfl, rfl, rfl, rfl, rfl⟩
    | some e =>
      simp only [Option.elim_some, LanePort.accept]
      split <;> exact ⟨rfl, rfl, rfl, rfl, rfl, rfl⟩
  · exact ⟨rfl, rfl, rfl, rfl, rfl, rfl⟩

/-- What it does to the receive queue: nothing for another DEST or when rejected, else it is queued where there is room. -/
theorem portJudged_rx (role : Role) (control : Octet) (f : Frame) (p : LanePort) :
    (f.dest ≠ 0xFE#8 → (portJudged role control f p).rx = p.rx)
      ∧ (f.dest = 0xFE#8 → judgeTelegram role control f = none → (portJudged role control f p).rx = p.rx)
      ∧ (f.dest = 0xFE#8 → ∀ e, judgeTelegram role control f = some e →
          (portJudged role control f p).rx = if p.rx.length < 8 then p.rx ++ [e] else p.rx) := by
  refine ⟨fun foreign => ?_, fun ours rejected => ?_, fun ours e accepted => ?_⟩
  · rw [portJudged, if_neg foreign]
  · rw [portJudged, if_pos ours, rejected]
    rfl
  · rw [portJudged, if_pos ours, accepted]
    simp only [Option.elim_some, LanePort.accept]
    split <;> rfl

/-- One count rises, for another DEST, for a telegram queued, or for one that found no room. -/
theorem portJudged_counts (role : Role) (control : Octet) (f : Frame) (p : LanePort) :
    (portJudged role control f p).counts.foreignAddress
        = (if f.dest ≠ 0xFE#8 then countUp p.counts.foreignAddress else p.counts.foreignAddress)
      ∧ (portJudged role control f p).counts.accepted
        = (if f.dest = 0xFE#8 ∧ judgeTelegram role control f ≠ none ∧ p.rx.length < 8 then countUp p.counts.accepted
            else p.counts.accepted)
      ∧ (portJudged role control f p).counts.receiveOverflows
        = (if f.dest = 0xFE#8 ∧ judgeTelegram role control f ≠ none ∧ 8 ≤ p.rx.length then countUp p.counts.receiveOverflows
            else p.counts.receiveOverflows) := by
  unfold portJudged
  by_cases ours : f.dest = 0xFE#8
  · cases judgeTelegram role control f with
    | none => simp [ours]
    | some e =>
      by_cases room : p.rx.length < 8
      · simp [ours, LanePort.accept, room, LaneCounts.bumpAccepted]
      · simp [ours, LanePort.accept, room, Nat.le_of_not_lt room, LaneCounts.bumpOverflows]
  · simp [ours, LaneCounts.bumpForeign]

theorem portJudged_accepted {role : Role} {control : Octet} {f : Frame} {e : RxEntry} (ours : f.dest = 0xFE#8)
    (h : judgeTelegram role control f = some e) (p : LanePort) : portJudged role control f p = p.accept e := by
  rw [portJudged, if_pos ours, h]
  rfl

theorem portJudged_foreign {f : Frame} (h : f.dest ≠ 0xFE#8) (role : Role) (control : Octet) (p : LanePort) :
    portJudged role control f p = { p with counts := p.counts.bumpForeign } := if_neg h

/-- A repair is counted as corrected and as nothing else (R145). -/
theorem heardPort_counts (s : State) (l : LaneId) (repaired : Bool) :
    (heardPort s l repaired).counts = { s.lanes[l].counts with
      corrected := if repaired then min 65535 (s.lanes[l].counts.corrected + 1) else s.lanes[l].counts.corrected } := by
  cases repaired <;> rfl

/-! ## A LIVE lane, and one that carries no telegrams to trucks -/

theorem exec_foreignFrame {s : State} {l : LaneId} {octets : List Octet} {f : Frame} {control : Octet} {repaired : Bool}
    (arrives : s.frameArrives l octets) (sound : soundFrame octets f control repaired)
    (h : s.lanes[l].state = .live ∨ s.settings.lanes[l].role.isRadio = false) (foreign : f.dest ≠ 0xFE#8) :
    exec (frameOn l octets) s = .next (s.onLane l fun p =>
      { p.heard s.now repaired with counts := (p.heard s.now repaired).counts.bumpForeign }) := by
  rw [exec_unrejectedFrame arrives sound h fun ours => absurd ours foreign]
  simp only [portJudged_foreign foreign]

theorem exec_acceptedFrame {s : State} {l : LaneId} {octets : List Octet} {f : Frame} {control : Octet} {repaired : Bool}
    {e : RxEntry} (arrives : s.frameArrives l octets) (sound : soundFrame octets f control repaired)
    (h : s.lanes[l].state = .live ∨ s.settings.lanes[l].role.isRadio = false) (ours : f.dest = 0xFE#8)
    (accepted : judgeTelegram s.settings.lanes[l].role control f = some e) :
    exec (frameOn l octets) s = .next (s.onLane l fun p =>
      if p.rx.length < 8 then
        { p.heard s.now repaired with rx := p.rx ++ [e], counts := (p.heard s.now repaired).counts.bumpAccepted }
      else { p.heard s.now repaired with counts := (p.heard s.now repaired).counts.bumpOverflows }) := by
  have kept : judgeTelegram s.settings.lanes[l].role control f ≠ none := by
    rw [accepted]
    exact Option.some_ne_none e
  rw [exec_unrejectedFrame arrives sound h fun _ => kept]
  simp only [portJudged_accepted ours accepted]
  rfl

/-! ## A radio lane turned LIVE -/

/-- The lane's repeat flag after the repeat, if it was due (R51). -/
def repeatedAfter (s : State) (l : LaneId) : Bool :=
  s.lanes[l].resyncRepeated || (s.resyncOpened.isSome && s.carriesTrucks s.settings.lanes[l].role)

theorem repeatedAfter_of_open {s : State} {l : LaneId} {opened : Time} (isOpen : s.resyncOpened = some opened)
    (carries : s.carriesTrucks s.settings.lanes[l].role = true) : repeatedAfter s l = true := by
  rw [repeatedAfter, isOpen, carries]
  exact Bool.or_true _

theorem repeatedAfter_of_due {s : State} {l : LaneId} {opened : Time} (h : repeatDue s l opened) : repeatedAfter s l = true := by
  obtain ⟨isOpen, carries, -⟩ := h
  exact repeatedAfter_of_open isOpen carries

theorem repeatedAfter_of_not {s : State} {l : LaneId} (h : ∀ opened, ¬ repeatDue s l opened) :
    repeatedAfter s l = s.lanes[l].resyncRepeated := by
  unfold repeatedAfter
  cases clear : s.lanes[l].resyncRepeated with
  | true => rfl
  | false =>
    cases isOpen : s.resyncOpened with
    | none => rfl
    | some opened =>
      cases carries : s.carriesTrucks s.settings.lanes[l].role with
      | true => exact absurd ⟨isOpen, carries, clear⟩ (h opened)
      | false => rfl

/-- Beside the transmit queue and its counts, the port is the heard one with its repeat flag, judged. -/
theorem turnsLive_core (s : State) (l : LaneId) (repaired : Bool) (control : Octet) (f : Frame) :
    portCore (State.finishAll s (judged (turnedLive s l repaired) l s.settings.lanes[l].role control f)).lanes[l]
      = portCore (portJudged s.settings.lanes[l].role control f
          { heardPort s l repaired with resyncRepeated := repeatedAfter s l }) := by
  obtain ⟨n, sent⟩ := turnsLive_offered s l repaired control f
  rw [portCore_offered sent, portCore_judged, portCore_judged, portCore_unpairedMore]
  congr 1
  rcases heardRepeat_lane s l repaired with ⟨opened, due, lane⟩ | ⟨not, lane⟩
  · rw [lane, repeatedAfter_of_due due]
    exact portCore_offered (.single ⟨_, rfl⟩)
  · rw [lane, repeatedAfter_of_not not]
    rfl

/-- Ports alike in all but the transmit queue and its counts are alike in each of these fields. -/
theorem fields_of_core {p q : LanePort} (h : portCore p = portCore q) :
    (p.state = q.state ∧ p.silenceStart = q.silenceStart ∧ p.partialFrame = q.partialFrame
        ∧ p.resyncRepeated = q.resyncRepeated ∧ p.rx = q.rx)
      ∧ p.counts.checkFailures = q.counts.checkFailures ∧ p.counts.corrected = q.counts.corrected
      ∧ p.counts.foreignAddress = q.counts.foreignAddress ∧ p.counts.accepted = q.counts.accepted
      ∧ p.counts.receiveOverflows = q.counts.receiveOverflows := by
  simp only [portCore, LanePort.mk.injEq, LaneCounts.mk.injEq] at h
  obtain ⟨state, silence, partialFrame, -, rx, -, -, -, -, ⟨accepted, failures, corrected, foreign, overflows, -⟩, repeated⟩ := h
  exact ⟨⟨state, silence, partialFrame, repeated, rx⟩, failures, corrected, foreign, accepted, overflows⟩

/-- The RESYNC that a due repeat offers stays in the lane's transmit queue where it found room (R51, R150). -/
theorem turnsLive_resync_mem {s : State} {l : LaneId} {opened : Time} (due : repeatDue s l opened)
    (room : s.lanes[l].tx.length < 16) (repaired : Bool) (control : Octet) (f : Frame) :
    OutTelegram.resync (s.resyncLeft opened)
      ∈ (State.finishAll s (judged (turnedLive s l repaired) l s.settings.lanes[l].role control f)).lanes[l].tx := by
  obtain ⟨n, sent⟩ := turnsLive_offered s l repaired control f
  refine mem_offered rfl sent ?_
  rw [portJudged_tx]
  rcases heardRepeat_lane s l repaired with ⟨opened', due', lane⟩ | ⟨not, -⟩
  · obtain rfl : opened' = opened := Option.some.inj (due'.1.symm.trans due.1)
    rw [lane]
    exact mem_offer_self rfl room
  · exact absurd due (not opened)

/-- Outside BOTH mode the transmit queue takes the RESYNC of a due repeat and nothing more. -/
theorem turnsLive_tx_of_mode {s : State} {l : LaneId} (told : s.positionsTold)
    (radio : s.settings.lanes[l].role.isRadio = true) (mode : s.settings.pairingMode ≠ .both) (repaired : Bool)
    (control : Octet) (f : Frame) :
    (∀ opened, repeatDue s l opened →
        (State.finishAll s (judged (turnedLive s l repaired) l s.settings.lanes[l].role control f)).lanes[l].tx
          = (s.lanes[l].offer (OutTelegram.resync (s.resyncLeft opened))).tx)
      ∧ ((∀ opened, ¬ repeatDue s l opened) →
        (State.finishAll s (judged (turnedLive s l repaired) l s.settings.lanes[l].role control f)).lanes[l].tx
          = s.lanes[l].tx) := by
  rw [turnsLive_lane_of_mode told radio mode, portJudged_tx]
  rcases heardRepeat_lane s l repaired with ⟨opened', due', lane⟩ | ⟨not, lane⟩
  · refine ⟨fun opened due => ?_, fun not => absurd due' (not opened')⟩
    obtain rfl : opened' = opened := Option.some.inj (due'.1.symm.trans due.1)
    rw [lane]
    exact offer_tx_congr (p := { heardPort s l repaired with resyncRepeated := true }) (q := s.lanes[l]) rfl _
  · exact ⟨fun opened due => absurd due (not opened), fun _ => by rw [lane]; rfl⟩

/-- Settles O10: the octets are collected one by one, the whole frame is judged on CONTROL and CHECK, and its telegram on a port
that has been heard. -/
theorem frameIsAccepted : Obligations.FrameIsAccepted := by
  unfold Obligations.FrameIsAccepted
  refine ⟨fun s l octets f control e hrun told used live hunts room start whole short hf hc hk ours accepted => ?_,
    fun s l octets arrives broken => exec_brokenFrame arrives broken,
    fun s l octets f control repaired arrives sound h => ⟨exec_foreignFrame arrives sound h,
      fun ours e accepted => exec_acceptedFrame arrives sound h ours accepted, fun ours rejected => ?_⟩,
    fun s l octets f control repaired arrives sound h radio => ?_⟩
  · refine ⟨_, exec_acceptedFrame ⟨hrun, told, used, hunts, start, whole, short⟩ ⟨hf, hc, hk⟩ (.inl live) ours accepted, rfl,
      fun m hm => ?_, ?_⟩
    · rw [onLane_lane, if_neg hm]
    · rw [onLane_lane, if_pos rfl, if_pos room]
      exact ⟨rfl, rfl, rfl, rfl, hunts, rfl, rfl⟩
  · obtain ⟨t, hexec, rest, event, sent⟩ := exec_rejectedFrame arrives sound h ours rejected
    refine ⟨t, hexec, rest, event, ?_⟩
    rw [offered_rest sent, heardPort_counts]
    exact ⟨rfl, rfl, rfl, rfl, rfl, rfl⟩
  · obtain ⟨-, told, -⟩ := id arrives
    obtain ⟨⟨state, silence, partialFrame, repeated, rx⟩, failures, corrected, foreign, accepted, overflows⟩ :=
      fields_of_core (turnsLive_core s l repaired control f)
    obtain ⟨state', silence', partialFrame', repeated', failures', corrected'⟩ :=
      portJudged_rest s.settings.lanes[l].role control f
        { heardPort s l repaired with resyncRepeated := repeatedAfter s l }
    obtain ⟨rxForeign, rxRejected, rxAccepted⟩ := portJudged_rx s.settings.lanes[l].role control f
      { heardPort s l repaired with resyncRepeated := repeatedAfter s l }
    obtain ⟨foreign', accepted', overflows'⟩ := portJudged_counts s.settings.lanes[l].role control f
      { heardPort s l repaired with resyncRepeated := repeatedAfter s l }
    rw [heardPort_counts] at failures' corrected' foreign' accepted' overflows'
    refine ⟨_, exec_turnsLive arrives sound h radio, state.trans state', silence.trans silence',
      partialFrame.trans partialFrame', fun isOpen carries => ?_, fun hd => rx.trans (rxForeign hd),
      fun hd hj => rx.trans (rxRejected hd hj), fun hd e hj => rx.trans (rxAccepted hd e hj), failures.trans failures',
      corrected.trans corrected', foreign.trans foreign', accepted.trans accepted', overflows.trans overflows',
      turnsLive_event s l repaired control f, fun opened isOpen carries clear => ?_, fun notDue => ?_⟩
    · rw [repeated, repeated']
      obtain ⟨opened, ho⟩ := Option.ne_none_iff_exists'.mp isOpen
      exact repeatedAfter_of_open ho carries
    · have due : repeatDue s l opened := ⟨isOpen, carries, clear⟩
      exact ⟨fun mode => (turnsLive_tx_of_mode told radio mode repaired control f).1 opened due,
        fun room => turnsLive_resync_mem due room repaired control f⟩
    · have not : ∀ opened, ¬ repeatDue s l opened := by
        rintro opened ⟨isOpen, carries, clear⟩
        rcases notDue with closed | other | already
        · rw [closed] at isOpen; cases isOpen
        · rw [other] at carries; cases carries
        · rw [already] at clear; cases clear
      exact ⟨repeated.trans (repeated'.trans (repeatedAfter_of_not not)),
        fun mode => (turnsLive_tx_of_mode told radio mode repaired control f).2 not⟩

end Sys2Proof.Machine.Admission
end
